-- ==== Sys2Proof/Word.lean ====
section
/-! DEFINITION. The word types of the OA24 model: bytes, module time, and pairs kept per side and per channel. -/

namespace Sys2Proof

/-- One byte of a frame, of a reply or of the parameter block (12_frame_and_block_formats.md). -/
abbrev Byte := BitVec 8

/-- Module time: a count of microseconds from start, 32 bits wide, which wraps (00_scope.md, Units and ranges). -/
abbrev Time := BitVec 32

/-- One bit of the axle link as read: `true` is recessive (read as 1), `false` dominant (read as 0); 06, opening. -/
abbrev Bit := Bool

/-- Station positions 0 to 3 (00_scope.md, Positions, sides and lanes). -/
abbrev Position := Fin 4

/-- The two sides of the bus; lane 2p is LEFT and lane 2p + 1 is RIGHT. -/
inductive Side where
  | left
  | right
  deriving DecidableEq, Repr

/-- The two channels of a station; channel 1 always serves the LEFT wheel. -/
inductive Channel where
  | ch1
  | ch2
  deriving DecidableEq, Repr

/-- A value for each side. -/
structure Sides (α : Type) where
  left : α
  right : α
  deriving DecidableEq, Repr

/-- A value for each channel. -/
structure Chans (α : Type) where
  ch1 : α
  ch2 : α
  deriving DecidableEq, Repr

/-- A value for each station position 0 to 3. -/
structure Quad (α : Type) where
  p0 : α
  p1 : α
  p2 : α
  p3 : α
  deriving DecidableEq, Repr

end Sys2Proof
end

