-- ==== Sys2Proof/Syntax.lean ====
section
/-! DEFINITION. The commands the OA24 takes: one constructor of `Instr` per row of spec/opcode_table.json, with the
operands the spec's rules give the event. -/

namespace Sys2Proof

/-- Modulator arrangement, read from the ARR strap (R180). -/
inductive Arrangement where
  | split
  | joined
  deriving DecidableEq, Repr

/-- The state of a sensor's wiring as the front end reports it at a window close (R13). -/
inductive WireReport where
  | good
  | opened
  | shorted
  deriving DecidableEq, Repr

/-- The four states of a speed input (01, section 1.4). -/
inductive InputState where
  | standstill
  | starting
  | running
  | failed
  deriving DecidableEq, Repr

/-- The state of a pressure sensor (R21). -/
inductive SensorState where
  | good
  | failed
  deriving DecidableEq, Repr

/-- The nine phases of a channel (04, opening table). -/
inductive Phase where
  | inactive
  | follow
  | capped
  | hold
  | release
  | recover
  | reapply
  | passive
  | test
  deriving DecidableEq, Repr

/-- The eight phase codes of a lane (R35): 0 OPEN to 7 TEST. -/
inductive LaneCode where
  | openLane
  | capped
  | hold
  | release
  | recover
  | reapply
  | passive
  | test
  deriving DecidableEq, Repr

/-- The module modes (R145). -/
inductive Mode where
  | starting
  | active
  | quiet
  | service
  | held
  | passive
  | latched
  deriving DecidableEq, Repr

/-- The settings of a channel's two solenoids (R93). -/
inductive Pattern where
  | pass
  | hold
  | exhaust
  deriving DecidableEq, Repr

/-- The two solenoids of a channel: IN1 and OUT1, or IN2 and OUT2. -/
inductive Valve where
  | inlet
  | outlet
  deriving DecidableEq, Repr

/-- The channel faults, cause codes 1 to 8 (08, section 8.2). -/
inductive ChannelCause where
  | speedWire
  | speedJump
  | speedDead
  | chamberSensor
  | valveOpen
  | valveShort
  | releaseOverrun
  | tracking
  deriving DecidableEq, Repr

/-- The reversible causes, codes 9 and 10. -/
inductive Reversible where
  | demandLost
  | supplyUnder
  deriving DecidableEq, Repr

/-- The observations, codes 15 and 16. -/
inductive Observation where
  | linkSilent
  | auxSensor
  deriving DecidableEq, Repr

/-- A fault notice as another block raises it (R148). A channel fault names its channel and may be marked for
recording (R110). ALL_CHANNELS and PROMOTED are raised by the fault unit itself and are no notices. -/
inductive Notice where
  | channelFault (cause : ChannelCause) (ch : Channel) (marked : Bool)
  | configBad
  | positionClash
  | reversible (cause : Reversible)
  | observation (cause : Observation)
  deriving DecidableEq, Repr

/-- The eight alert kinds, codes 1 to 8 (R139). -/
inductive AlertKind where
  | lockOnset
  | cycleEnd
  | channelPassive
  | moduleHeld
  | modulePassive
  | moduleLatched
  | moduleRecovered
  | positionClash
  deriving DecidableEq, Repr

/-- One wheel sample (R3). -/
structure Sample where
  state : InputState
  speed : Nat
  accel : Int
  held : Bool
  deriving DecidableEq, Repr

/-- What the view unit hands the slip controller (R61). The mask has lane n at bit n. -/
structure RefUpdate where
  vref : Nat
  samples : Sides Sample
  mask : BitVec 8
  deriving DecidableEq, Repr

/-- The notices of R176's table that may be wake events. -/
inductive WakeEvent where
  | edge (side : Side)
  | acceptance (mode : Mode) (vref : Nat)
  | request
  | brakingRise
  | reference (vref : Nat)
  deriving DecidableEq, Repr

/-- The abort events of R196's table. `modeChange m` is the test-abort notice of a mode change into m (R147). -/
inductive AbortEvent where
  | edge (side : Side)
  | brakingRise
  | sagEntry
  | channelFault
  | modeChange (mode : Mode)
  deriving DecidableEq, Repr

/-- The outcomes that bring an alert group back to the queue (R118, R143). -/
inductive AlertReturn where
  | failed
  | lost
  deriving DecidableEq, Repr

/-- The strap pins as sampled: `true` is tied high (R180). -/
structure Straps where
  pos0 : Bool
  pos1 : Bool
  arr : Bool
  nom : Bool
  deriving DecidableEq, Repr

/-- The converter codes of one pressure sample, 12 bits each (02, opening). -/
structure PressureCodes where
  demand : BitVec 12
  chamber1 : BitVec 12
  chamber2 : BitVec 12
  reservoir : BitVec 12
  deriving DecidableEq, Repr

/-- A service request as received: its payload length, byte 0 and the argument byte (12, section 12.4). The kind byte
is given by the command's row, or carried beside this in BAD_REQUEST. -/
structure ServiceReq where
  length : Nat
  byte0 : Byte
  arg : Byte
  deriving DecidableEq, Repr

/-- The commands. Those that reach the part from a pin or from a timer carry the module time `t` of their arrival.
Those that one block hands another carry what is handed. -/
inductive Instr where
  -- reset and supply
  | powerOnReset
  | brownOutNotice (t : Time)
  | brownOutExpiry (t : Time)
  | brownOutRise (t : Time)
  | supplySample (t : Time) (value : Nat)
  -- start
  | startSequence (straps : Straps)
  | readCompletion (t : Time) (block : List Byte)
  | listenExpiry (t : Time)
  | startingExpiry (t : Time)
  | endOfStarting
  -- speed unit
  | toothEdge (t : Time) (side : Side)
  | windowClose (t : Time) (wires : Sides WireReport)
  -- pressure unit
  | pressureSample (t : Time) (codes : PressureCodes)
  | samplePeriodChange (intoQuiet : Bool)
  -- view unit
  | missingTimerExpiry (t : Time)
  | samplePair (pair : Sides Sample)
  | statusReceived (sender : Fin 8) (payload : List Byte)
  | alertReceived (sender : Fin 8) (payload : List Byte)
  | staleExpiry (t : Time) (p : Position)
  | lostExpiry (t : Time) (p : Position)
  | lanePhaseCopy (ch : Channel) (phase : Phase)
  -- slip controller
  | referenceUpdate (upd : RefUpdate)
  -- pressure loop and valve driver
  | phaseHandoff (ch : Channel) (phase : Phase) (cap : Nat)
  | capStepHandoff (ch : Channel) (cap : Nat)
  | modeChangeToDriver (mode : Mode)
  | chamberSample (ch : Channel) (pc : Nat) (sensor : SensorState) (pd : Nat)
  | sagEntry
  | testStep (ch : Channel) (pattern : Pattern)
  | overCurrent (t : Time) (ch : Channel) (valve : Valve)
  | checkTimerExpiry (t : Time) (ch : Channel) (valve : Valve) (milliamps : Nat) (loadFound : Bool)
  -- link controller
  | receiveFrame (t : Time) (bits : List Bit)
  | stuckExpiry (t : Time)
  | transmitStart (t : Time)
  | contentionLoss (t : Time) (bit : Fin 8)
  | transmitError (t : Time) (bit : Nat)
  | transmitSuccess (t : Time)
  | silenceExpiry (t : Time)
  | lineIdle (t : Time) (bits : List Bit)
  -- report composer
  | reportTimerExpiry (t : Time)
  | quietReportChange (intoQuiet : Bool)
  | statusSuccessNotice
  | alertHanded (kind : AlertKind) (ch : Option Channel) (value : Nat)
  | alertSent
  | alertReturned (outcome : AlertReturn)
  -- fault unit
  | faultNotice (notice : Notice)
  | causeCleared (cause : Reversible)
  | supplySagNotice
  | quietEntry
  | quietExit
  | serviceEntry
  | serviceExit
  | serviceClear
  | millisecondCountTick (t : Time)
  -- quiet control
  | wakeEvent (event : WakeEvent)
  -- service responder
  | readRecord (req : ServiceReq)
  | readStats (req : ServiceReq)
  | clear (req : ServiceReq)
  | restart (req : ServiceReq)
  | valveTest (req : ServiceReq)
  | badRequest (kind : Byte) (req : ServiceReq)
  | serviceAnswer (accepted : Bool)
  | stepTimerExpiry (t : Time)
  | abortEvent (event : AbortEvent)
  | replySuccessNotice (restartReply : Bool)
  | restartTimerExpiry (t : Time)
  deriving DecidableEq, Repr

end Sys2Proof
end

