-- ==== Sys2Proof/Machine/State.lean ====
section
/-! DEFINITION. The state of one OA24 station, block by block as 00_scope.md lists the blocks, and its reset value. -/

namespace Sys2Proof.Machine

/-- Why a command could end in a fault: never. Every fault of the manual is a notice that changes State (R148), so
there is no constructor. -/
inductive Fault where
  deriving DecidableEq, Repr

/-- Why a command could be refused. -/
inductive Refusal where
  /-- Raised by an arm of `exec` for a command that has no meaning yet; safe. No arm raises it. -/
  | notModelled (mnemonic : String)
  deriving DecidableEq, Repr

/-- A running timer: set at a module time, to expire `period` microseconds later. A stopped timer is an absent one. -/
structure Timer where
  setAt : Time
  period : Nat
  deriving DecidableEq, Repr

/-! ## Speed unit (01) -/

/-- The speeds of the last four windows, `h0` oldest (R12). -/
structure History where
  h0 : Nat
  h1 : Nat
  h2 : Nat
  h3 : Nat
  deriving DecidableEq, Repr

/-- What the speed unit keeps for one input (01, state table). -/
structure SpeedInput where
  state : InputState
  speed : Nat
  accel : Int
  history : History
  edges : Nat
  lastEdge : Option Time
  refEdge : Option Time
  startMark : Bool
  jumps : Nat
  dead : Nat
  deriving DecidableEq, Repr

/-- The speed unit. K_L and K_R stand with the start-up unit's derived constants. -/
structure SpeedUnit where
  inputs : Sides SpeedInput
  window : Option Timer
  deriving DecidableEq, Repr

/-- R18. -/
def SpeedInput.reset : SpeedInput :=
  { state := .standstill, speed := 0, accel := 0, history := ⟨0, 0, 0, 0⟩, edges := 0, lastEdge := none,
    refEdge := none, startMark := false, jumps := 0, dead := 0 }

/-- R18. -/
def SpeedUnit.reset : SpeedUnit := { inputs := ⟨SpeedInput.reset, SpeedInput.reset⟩, window := none }

/-! ## Pressure unit (02) -/

/-- One pressure input (R21). -/
structure Sensor where
  reading : Nat
  state : SensorState
  outOfBand : Nat
  deriving DecidableEq, Repr

/-- The pressure unit (02, state table). -/
structure PressureUnit where
  demand : Sensor
  chambers : Chans Sensor
  reservoir : Sensor
  pd : Nat
  demandLost : Bool
  braking : Bool
  economy : Bool
  lowRun : Option Time
  highRun : Option Time
  timer : Option Timer
  deriving DecidableEq, Repr

/-- R34. -/
def Sensor.reset : Sensor := { reading := 0, state := .good, outOfBand := 0 }

/-- R34. -/
def PressureUnit.reset : PressureUnit :=
  { demand := Sensor.reset, chambers := ⟨Sensor.reset, Sensor.reset⟩, reservoir := Sensor.reset, pd := 0,
    demandLost := false, braking := false, economy := false, lowRun := none, highRun := none, timer := none }

/-! ## View unit (03) -/

/-- The ageing states of a peer entry (R35). -/
inductive EntryState where
  | empty
  | fresh
  | stale
  | lost
  deriving DecidableEq, Repr

/-- One lane: its speed, optional, its accel and its phase code (R35, R50). -/
structure Lane where
  speed : Option Nat
  accel : Int
  code : LaneCode
  deriving DecidableEq, Repr

/-- One entry of the peer table (R35). Pressures are in units of 100 mbar. -/
structure PeerEntry where
  state : EntryState
  lastSeq : Option Byte
  accepted : Option Time
  mode : Mode
  arrangement : Arrangement
  vref : Nat
  demand : Option Nat
  reservoir : Option Nat
  lanes : Sides Lane
  deriving DecidableEq, Repr

/-- The input state and held mark the view unit keeps of an own lane for the window (R50). -/
structure OwnWindow where
  state : InputState
  held : Bool
  deriving DecidableEq, Repr

/-- The missing timer (R49). -/
inductive MissingTimer where
  | stopped
  | running (timer : Timer)
  | expired
  deriving DecidableEq, Repr

/-- The view unit (03, state table). The peer table has a place for each position; the own position's place stays
EMPTY, so the table holds three entries. The mask has lane n at bit n. -/
structure ViewUnit where
  peers : Quad PeerEntry
  lanes : Quad (Sides Lane)
  own : Sides OwnWindow
  vref : Nat
  firstWindow : Bool
  coasting : Nat
  mask : BitVec 8
  alone : Bool
  missing : MissingTimer
  deriving DecidableEq, Repr

/-- An absent lane (R52, R62). -/
def Lane.absent : Lane := { speed := none, accel := 0, code := .openLane }

/-- R62; the fields the spec gives no value for stand as log entry 5 says. -/
def PeerEntry.reset : PeerEntry :=
  { state := .empty, lastSeq := none, accepted := none, mode := .starting, arrangement := .split, vref := 0,
    demand := none, reservoir := none, lanes := ⟨Lane.absent, Lane.absent⟩ }

/-- DESIGN CHOICE, log entry 5. -/
def OwnWindow.reset : OwnWindow := { state := .standstill, held := false }

/-- R62. -/
def ViewUnit.reset : ViewUnit :=
  { peers := ⟨PeerEntry.reset, PeerEntry.reset, PeerEntry.reset, PeerEntry.reset⟩
    lanes := ⟨⟨Lane.absent, Lane.absent⟩, ⟨Lane.absent, Lane.absent⟩, ⟨Lane.absent, Lane.absent⟩,
      ⟨Lane.absent, Lane.absent⟩⟩
    own := ⟨OwnWindow.reset, OwnWindow.reset⟩
    vref := 0, firstWindow := true, coasting := 0, mask := 0, alone := false, missing := .stopped }

/-! ## Slip controller (04) -/

/-- The channel record (R63). -/
structure ChannelRec where
  phase : Phase
  pLock : Nat
  cap : Nat
  falseOnset : Nat
  releaseCount : Nat
  stepCount : Nat
  strong : Bool
  yawSpent : Bool
  faultWait : Bool
  deriving DecidableEq, Repr

/-- R63. -/
def ChannelRec.reset : ChannelRec :=
  { phase := .inactive, pLock := 0, cap := 0, falseOnset := 0, releaseCount := 0, stepCount := 0, strong := false,
    yawSpent := false, faultWait := false }

/-! ## Pressure loop and valve driver (05) -/

/-- One solenoid (05, second state table); `on` is the drive, what the pin does. -/
structure Solenoid where
  on : Bool
  shortLock : Bool
  openCount : Nat
  openMark : Bool
  timer : Option Timer
  deriving DecidableEq, Repr

/-- What the driver keeps for one channel (05, first state table). -/
structure DriverChan where
  phase : Phase
  cap : Nat
  pattern : Pattern
  testPattern : Pattern
  tracking : Bool
  integrator : Int
  windUp : Bool
  woundUp : Bool
  dwellStart : Option Time
  errorRun : Option Time
  warning : Bool
  spent : Bool
  inlet : Solenoid
  outlet : Solenoid
  deriving DecidableEq, Repr

/-- The driver, with the module mode as last handed to it (R94). -/
structure Driver where
  mode : Mode
  chans : Chans DriverChan
  deriving DecidableEq, Repr

/-- R112. -/
def Solenoid.reset : Solenoid :=
  { on := false, shortLock := false, openCount := 0, openMark := false, timer := none }

/-- R112. -/
def DriverChan.reset : DriverChan :=
  { phase := .inactive, cap := 0, pattern := .pass, testPattern := .pass, tracking := false, integrator := 0,
    windUp := false, woundUp := false, dwellStart := none, errorRun := none, warning := false, spent := false,
    inlet := Solenoid.reset, outlet := Solenoid.reset }

/-- R112; the mode as handed is STARTING, the mode of R145 at reset (log entry 6). -/
def Driver.reset : Driver := { mode := .starting, chans := ⟨DriverChan.reset, DriverChan.reset⟩ }

/-! ## Link controller (06) -/

/-- The line state (R113): SETTLING with the recessive bits needed and seen, IDLE or FRAME. -/
inductive LineState where
  | settling (need seen : Nat)
  | idle
  | frame
  deriving DecidableEq, Repr

/-- The transmitter state (R125). -/
inductive TxState where
  | listen
  | enabled
  | silent
  deriving DecidableEq, Repr

/-- A frame as it goes on the line: contention field, payload and check (R115). The length field is the payload's
length. -/
structure Frame where
  contention : Byte
  payload : List Byte
  check : BitVec 16
  deriving DecidableEq, Repr

/-- A frame in flight with the body it was made of. -/
structure InFlight (α : Type) where
  body : α
  frame : Frame
  deriving DecidableEq, Repr

/-- A transmit slot with an in-flight and a waiting place (R117). -/
structure Slot (α : Type) where
  inFlight : Option (InFlight α)
  waiting : Option α
  deriving DecidableEq, Repr

/-- A STATUS as composed (R134): every field but the sequence, which is settled at the start bit (R119). -/
structure StatusReport where
  mode : Mode
  arrangement : Arrangement
  demand : Option Nat
  reservoir : Option Nat
  left : Lane
  right : Lane
  economy : Bool
  alone : Bool
  trackingWarning : Bool
  supplySag : Bool
  coasting : Bool
  maskLeft : Bool
  maskRight : Bool
  vref : Nat
  deriving DecidableEq, Repr

/-- A SERVICE_REPLY: its payload, and whether it is the restart reply (R193). -/
structure Reply where
  payload : List Byte
  restartReply : Bool
  deriving DecidableEq, Repr

/-- The link statistics (R129), each 0 to 65535. -/
structure LinkStats where
  receiveErrors : Nat
  foreignFrames : Nat
  transmitErrors : Nat
  alertDrops : Nat
  duplicates : Nat
  gaps : Nat
  deriving DecidableEq, Repr

/-- The link controller (06, state table). `stuck` is the stuck timer in microseconds; `stuckTaken` says its expiry
has come in the present dominant run (R114). `ownSending` says that the frame on the line is the station's own and
has met neither loss nor error (R127). `idleSince` is the module time at which the line last became IDLE, and `awaitIdle`
says that the silence expired at that same moment, after the idle was taken, so that the station waits for the next idle
(R126, log entry 27). -/
structure Link where
  line : LineState
  stuck : Nat
  stuckTaken : Bool
  ownSending : Bool
  idleSince : Option Time
  awaitIdle : Bool
  tx : TxState
  silence : Option Timer
  status : Slot StatusReport
  alert : Option Frame
  reply : Slot Reply
  consecutive : Nat
  stats : LinkStats
  deriving DecidableEq, Repr

/-- R131. -/
def LinkStats.zero : LinkStats :=
  { receiveErrors := 0, foreignFrames := 0, transmitErrors := 0, alertDrops := 0, duplicates := 0, gaps := 0 }

/-- R131. -/
def Link.reset : Link :=
  { line := .settling 10 0, stuck := 0, stuckTaken := false, ownSending := false, idleSince := none,
    awaitIdle := false, tx := .listen, silence := none, status := ⟨none, none⟩, alert := none,
    reply := ⟨none, none⟩, consecutive := 0, stats := LinkStats.zero }

/-! ## Report composer (07) -/

/-- The side an alert carries (R139). -/
inductive AlertSide where
  | none
  | left
  | right
  | both
  deriving DecidableEq, Repr

/-- An alert in the queue or the in-flight group (07, opening). -/
structure Alert where
  kind : AlertKind
  channel : Option Channel
  side : AlertSide
  value : Nat
  deriving DecidableEq, Repr

/-- The report composer (07, state table). -/
structure Composer where
  timer : Option Timer
  sent : Byte
  queue : List Alert
  group : List Alert
  deriving DecidableEq, Repr

/-- R144. -/
def Composer.reset : Composer := { timer := none, sent := 0, queue := [], group := [] }

/-! ## Fault unit (08) -/

/-- The sixteen cause codes (08, section 8.2). -/
inductive Cause where
  | channel (c : ChannelCause)
  | reversible (c : Reversible)
  | configBad
  | positionClash
  | allChannels
  | promoted
  | observation (c : Observation)
  deriving DecidableEq, Repr

/-- The held-cause set (R157). -/
structure HeldSet where
  demandLost : Bool
  supplyUnder : Bool
  deriving DecidableEq, Repr

/-- The first-fault record (R160). -/
structure FaultRecord where
  cause : Cause
  channel : Option Channel
  phase : Option Phase
  modeBefore : Mode
  time : Nat
  vref : Nat
  latch : Bool
  deriving DecidableEq, Repr

/-- The fault unit (08, state table). Code n of the cause-seen set is bit n - 1 (R163). -/
structure FaultUnit where
  mode : Mode
  held : HeldSet
  record : Option FaultRecord
  seen : BitVec 16
  supplyEvent : Bool
  millis : Nat
  milliTimer : Option Timer
  deriving DecidableEq, Repr

/-- R166, power-on reset. -/
def FaultUnit.reset : FaultUnit :=
  { mode := .starting, held := ⟨false, false⟩, record := none, seen := 0, supplyEvent := false, millis := 0,
    milliTimer := none }

/-! ## Supply monitor and quiet control (09) -/

/-- The supply states (R169, R170). -/
inductive SupplyState where
  | normal
  | sag
  | under
  deriving DecidableEq, Repr

/-- The supply monitor (09, state table), and the run below 6.00 V of the brown-out monitor (R172). -/
structure Supply where
  state : SupplyState
  value : Nat
  underRun : Option Time
  recoveryRun : Option Time
  riseRun : Option Time
  timer : Option Timer
  brownOut : Option Timer
  deriving DecidableEq, Repr

/-- R173; the brown-out run, R178. -/
def Supply.reset : Supply :=
  { state := .normal, value := 0, underRun := none, recoveryRun := none, riseRun := none, timer := none,
    brownOut := none }

/-! ## Start-up unit (10) -/

/-- The stages of a start (10, state table). -/
inductive Stage where
  | heldInReset
  | reading
  | listening
  | reporting
  | done
  deriving DecidableEq, Repr

/-- Nominal supply, from the NOM strap (R180). -/
inductive Nominal where
  | v12
  | v24
  deriving DecidableEq, Repr

/-- A value for each of the four pressure inputs. -/
structure PerSensor where
  demand : Nat
  chamber1 : Nat
  chamber2 : Nat
  reservoir : Nat
  deriving DecidableEq, Repr

/-- The parameter set (10, section 10.3). The free-rolling set has position p at bit p. -/
structure Params where
  stations : Nat
  freeRolling : BitVec 4
  teeth : Nat
  circLeft : Nat
  circRight : Nat
  jumpLimit : Nat
  dramp : Nat
  aramp : Nat
  tolerance : Nat
  slipAbs : Nat
  slipRel : Nat
  a1 : Nat
  a2 : Nat
  a3 : Nat
  vEntry : Nat
  vMin : Nat
  pOn : Nat
  pOff : Nat
  deltaP : Nat
  stepPeriod : Nat
  tRelMax : Nat
  yawMargin : Nat
  yawStep : Nat
  pEcon : Nat
  kp : Nat
  ki : Nat
  uOn : Nat
  offsets : PerSensor
  gains : PerSensor
  deriving DecidableEq, Repr

/-- The start-up unit (10, state table). The supply threshold set is read off `nominal` (R167). -/
structure StartUp where
  stage : Stage
  position : Option Position
  arrangement : Option Arrangement
  nominal : Option Nominal
  rawBlock : List Byte
  params : Option Params
  configBad : Bool
  clamped : Bool
  constants : Option (Sides Nat)
  listenTimer : Option Timer
  startingTimer : Option Timer
  deriving DecidableEq, Repr

/-- R179. -/
def StartUp.reset : StartUp :=
  { stage := .heldInReset, position := none, arrangement := none, nominal := none, rawBlock := [], params := none,
    configBad := false, clamped := false, constants := none, listenTimer := none, startingTimer := none }

/-! ## Service responder (11) -/

/-- The steps of a test round (R195). -/
inductive TestStep where
  | hold
  | exhaust
  | pass
  deriving DecidableEq, Repr

/-- The test state with the tested channel, round and step, which are absent in NONE (11, state table). -/
inductive TestState where
  | none
  | asking (ch : Channel)
  | running (ch : Channel) (round : Nat) (step : TestStep)
  deriving DecidableEq, Repr

/-- The service responder (11, state table). -/
structure Service where
  test : TestState
  stepTimer : Option Timer
  restartMark : Bool
  restartTimer : Option Timer
  deriving DecidableEq, Repr

/-- R188. -/
def Service.reset : Service := { test := .none, stepTimer := none, restartMark := false, restartTimer := none }

/-! ## The station -/

/-- The whole state of one station. `handed` lists the events one block has handed another and the receiver has not
yet taken, oldest first (log entry 1); `pending` is the queue of commands. `standstill` is the quiet control's one
item (R174). `freeIndex` counts the free values drawn (log entry 4). -/
structure State where
  now : Time
  freeIndex : Nat
  speed : SpeedUnit
  pressure : PressureUnit
  view : ViewUnit
  slip : Chans ChannelRec
  driver : Driver
  link : Link
  composer : Composer
  fault : FaultUnit
  supply : Supply
  standstill : Option Time
  startup : StartUp
  service : Service
  handed : List Instr
  pending : List Instr
  deriving DecidableEq, Repr

/-- The state right after power-on reset (R178 and the reset table of each chapter); the queue is empty. R178 gives module
time 0 only at the moment the start sequence begins: that it reads 0 from the reset on is the model's choice (DESIGN CHOICE,
log entry 32). -/
def State.reset : State :=
  { now := 0, freeIndex := 0, speed := SpeedUnit.reset, pressure := PressureUnit.reset, view := ViewUnit.reset,
    slip := ⟨ChannelRec.reset, ChannelRec.reset⟩, driver := Driver.reset, link := Link.reset,
    composer := Composer.reset, fault := FaultUnit.reset, supply := Supply.reset, standstill := none,
    startup := StartUp.reset, service := Service.reset, handed := [], pending := [] }

end Sys2Proof.Machine
end

