-- ==== Sys2Proof/Machine/Ops.lean ====
section
/-! DEFINITION. The named operations the meanings share: access by side, channel and position, module time and timers,
hand-offs, parameters in force, the link statistics and slots, mode changes and forcing, and the two resets. -/

namespace Sys2Proof.Machine

/-! ## Access by side, channel and position -/

/-- The value of a side. -/
def sideGet {α : Type} (x : Sides α) (i : Side) : α :=
  match i with
  | .left => x.left
  | .right => x.right

/-- The value of a side replaced. -/
def sideSet {α : Type} (x : Sides α) (i : Side) (a : α) : Sides α :=
  match i with
  | .left => { x with left := a }
  | .right => { x with right := a }

/-- The value of a channel. -/
def chanGet {α : Type} (x : Chans α) (c : Channel) : α :=
  match c with
  | .ch1 => x.ch1
  | .ch2 => x.ch2

/-- The value of a channel replaced. -/
def chanSet {α : Type} (x : Chans α) (c : Channel) (a : α) : Chans α :=
  match c with
  | .ch1 => { x with ch1 := a }
  | .ch2 => { x with ch2 := a }

/-- The value of a position. -/
def quadGet {α : Type} (x : Quad α) (p : Position) : α :=
  match p with
  | 0 => x.p0
  | 1 => x.p1
  | 2 => x.p2
  | 3 => x.p3

/-- The value of a position replaced. -/
def quadSet {α : Type} (x : Quad α) (p : Position) (a : α) : Quad α :=
  match p with
  | 0 => { x with p0 := a }
  | 1 => { x with p1 := a }
  | 2 => { x with p2 := a }
  | 3 => { x with p3 := a }

/-- Every position, from the front of the bus. -/
def positions : List Position := [0, 1, 2, 3]

/-- The other channel. -/
def otherChannel (c : Channel) : Channel :=
  match c with
  | .ch1 => .ch2
  | .ch2 => .ch1

/-! ## Module time -/

/-- The time from `start` to `now`, the difference taken modulo 2^32 (00_scope.md, Units and ranges). -/
def elapsed (now start : Time) : Nat := (now - start).toNat

/-- A run or dwell that began at `start` is at least `micros` old at `t`; an absent one never is. -/
def aged (start : Option Time) (t : Time) (micros : Nat) : Bool :=
  match start with
  | some t0 => decide (micros ≤ elapsed t t0)
  | none => false

/-- A running timer has reached its expiry at `t`; a stopped timer never has. -/
def timerDue (tm : Option Timer) (t : Time) : Bool :=
  match tm with
  | some x => decide (x.period ≤ elapsed t x.setAt)
  | none => false

/-- A timer set at `t` to `micros`. -/
def setTimer (t : Time) (micros : Nat) : Option Timer := some { setAt := t, period := micros }

/-- A periodic timer after an expiry: the next expiry comes one period after the last (R2, R19, R160, R168). -/
def nextPeriod (tm : Option Timer) : Option Timer :=
  match tm with
  | some x => some { x with setAt := x.setAt + BitVec.ofNat 32 x.period }
  | none => none

/-- A run (R30, R168): begins at `t` if the condition holds and it is absent, goes on while the condition holds, and is
absent when the condition fails. -/
def runWhile (cond : Bool) (run : Option Time) (t : Time) : Option Time :=
  if cond then (match run with | some t0 => some t0 | none => some t) else none

/-! ## Arrival of a command and hand-offs -/

/-- A command that carries a module time arrives: that is the time now. -/
def State.stamp (s : State) (t : Time) : State := { s with now := t }

/-- Events handed to other blocks, in the order they are handed (R86, R147, R171). -/
def State.hand (s : State) (cs : List Instr) : State := { s with handed := s.handed ++ cs }

/-- The receiving block takes a handed event: its first entry leaves the list. An event that was not handed leaves the
list as it is (log entry 1). -/
def State.take (s : State) (c : Instr) : State := { s with handed := s.handed.erase c }

/-- The hand-offs whose order a rule fixes, by the block that takes them: one channel's phase and cap (R86), the changes
of mode (R147), and the alerts of the fault unit (R155). -/
inductive HandOffOrder where
  | driverPhase (c : Channel)
  | viewPhase (c : Channel)
  | driverMode
  | samplePeriod
  | quietReport
  | testAbort
  | faultAlert
  deriving DecidableEq, Repr

/-- An alert the fault unit hands; the others are the slip controller's (R87, R155). -/
def fromFaultUnit (k : AlertKind) : Bool := decide (k ≠ .lockOnset) && decide (k ≠ .cycleEnd)

/-- The order a hand-off belongs to; none for a hand-off whose order is free. -/
def handOffOrder (c : Instr) : Option HandOffOrder :=
  match c with
  | .phaseHandoff ch _ _ => some (.driverPhase ch)
  | .capStepHandoff ch _ => some (.driverPhase ch)
  | .lanePhaseCopy ch _ => some (.viewPhase ch)
  | .modeChangeToDriver _ => some .driverMode
  | .samplePeriodChange _ => some .samplePeriod
  | .quietReportChange _ => some .quietReport
  | .abortEvent (.modeChange _) => some .testAbort
  | .alertHanded k _ _ => if fromFaultUnit k then some .faultAlert else none
  | _ => none

/-- It is the turn of a hand-off: no other of its order was handed before it and stands untaken (R86, R147, R155; log
entry 1). -/
def State.inTurn (s : State) (c : Instr) : Bool :=
  match handOffOrder c with
  | none => true
  | some k =>
    match s.handed.find? fun d => decide (handOffOrder d = some k) with
    | none => true
    | some d => decide (d = c)

/-- A hand-off of a fixed order taken in its turn, with its effect `f`; out of turn it changes nothing and stays handed (R86,
R147, R155; log entry 1). -/
def State.takeInTurn (s : State) (c : Instr) (f : State → State) : State := if s.inTurn c then f (s.take c) else s

/-! ## What the start-up unit has settled -/

/-- The fault unit, the slip controller and the quiet control take events from the beginning of the start sequence
(R184). -/
def State.begun (s : State) : Bool := decide (s.startup.stage ≠ .heldInReset)

/-- The speed unit, pressure unit, valve driver, view unit and receive side run from the read completion (R184). -/
def State.unitsOn (s : State) : Bool :=
  match s.startup.stage with
  | .heldInReset => false
  | .reading => false
  | .listening => true
  | .reporting => true
  | .done => true

/-- The service responder runs from the listen expiry (R185). -/
def State.responderOn (s : State) : Bool :=
  match s.startup.stage with
  | .heldInReset => false
  | .reading => false
  | .listening => false
  | .reporting => true
  | .done => true

/-- The default column of the table in 10, section 10.3 (R187). -/
def defaultParams : Params :=
  { stations := 3, freeRolling := 1#4, teeth := 80, circLeft := 3140, circRight := 3140, jumpLimit := 160, dramp := 8,
    aramp := 2, tolerance := 128, slipAbs := 128, slipRel := 26, a1 := 46, a2 := 23, a3 := 92, vEntry := 512,
    vMin := 320, pOn := 300, pOff := 200, deltaP := 150, stepPeriod := 12, tRelMax := 120, yawMargin := 500,
    yawStep := 25, pEcon := 5500, kp := 4, ki := 1, uOn := 600, offsets := ⟨410, 410, 410, 410⟩,
    gains := ⟨781, 781, 781, 781⟩ }

/-- The parameter set in force. No block that reads it runs before it is settled (R184). -/
def State.params (s : State) : Params := s.startup.params.getD defaultParams

/-- The station's own position. No block that reads it runs before the straps are sampled (R180). -/
def State.position (s : State) : Position := s.startup.position.getD 0

/-- The arrangement. No block that reads it runs before the straps are sampled (R180). -/
def State.arrangement (s : State) : Arrangement := s.startup.arrangement.getD .split

/-- The speed constants K_L and K_R (R4). -/
def State.constants (s : State) : Sides Nat := s.startup.constants.getD ⟨0, 0⟩

/-- Position p is an expected position: below S and not the own (00_scope.md; R35). -/
def State.expects (s : State) (p : Position) : Bool :=
  decide (p.val < s.params.stations) && decide (p ≠ s.position)

/-! ## Link statistics (R129) -/

/-- A count rises by `n` and stays at 65535 once the rise would take it past that value (R129). -/
def saturate16 (count n : Nat) : Nat := min 65535 (count + n)

/-- The statistics replaced by `f`'s. -/
def State.setStats (s : State) (st : LinkStats) : State := { s with link := { s.link with stats := st } }

/-- The receive-error count rises by 1 (R127, R36, R198). -/
def State.addReceiveError (s : State) : State :=
  s.setStats { s.link.stats with receiveErrors := saturate16 s.link.stats.receiveErrors 1 }

/-- The foreign-frame count rises by `n` (R36, R48, R128, R197). -/
def State.addForeign (s : State) (n : Nat) : State :=
  s.setStats { s.link.stats with foreignFrames := saturate16 s.link.stats.foreignFrames n }

/-- The transmit-error count rises by 1 (R123). -/
def State.addTransmitError (s : State) : State :=
  s.setStats { s.link.stats with transmitErrors := saturate16 s.link.stats.transmitErrors 1 }

/-- The alert-drop count rises by `n` (R140, R143). -/
def State.addAlertDrops (s : State) (n : Nat) : State :=
  s.setStats { s.link.stats with alertDrops := saturate16 s.link.stats.alertDrops n }

/-- The duplicate count rises by 1 (R37). -/
def State.addDuplicate (s : State) : State :=
  s.setStats { s.link.stats with duplicates := saturate16 s.link.stats.duplicates 1 }

/-- The gap count rises by `n` (R37). -/
def State.addGap (s : State) (n : Nat) : State :=
  s.setStats { s.link.stats with gaps := saturate16 s.link.stats.gaps n }

/-! ## The check (R116) -/

/-- One bit taken into the check register (R116, steps 1 to 3). -/
def crcBit (r : BitVec 16) (b : Bit) : BitVec 16 :=
  if b != r.msb then (r <<< 1) ^^^ 4129#16 else r <<< 1

/-- The check over bits, the register beginning with all 16 bits set (R116). -/
def crcBits (bits : List Bit) : BitVec 16 := bits.foldl crcBit 0xFFFF#16

/-- The low `w` bits of a number, most significant first. -/
def natBits (w n : Nat) : List Bit := (List.range w).map fun i => n.testBit (w - 1 - i)

/-- The number that bits spell, most significant first. -/
def bitsNat (bits : List Bit) : Nat := bits.foldl (fun n b => 2 * n + b.toNat) 0

/-- The bits of a byte, most significant first (R115, R181). -/
def byteBits (b : Byte) : List Bit := natBits 8 b.toNat

/-- The bits of bytes in order. -/
def bytesBits (bs : List Byte) : List Bit := bs.flatMap byteBits

/-! ## Transmit slots (R117) -/

/-- A frame is handed to a slot: it waits, and a waiting one is replaced (R117). -/
def slotPut {α : Type} (x : Slot α) (a : α) : Slot α := { x with waiting := some a }

/-- A transmit error or a loss: the frame in flight goes back to waiting, or is dropped behind a newer one (R117). -/
def slotReturn {α : Type} (x : Slot α) : Slot α :=
  match x.inFlight, x.waiting with
  | some f, none => { inFlight := none, waiting := some f.body }
  | _, w => { inFlight := none, waiting := w }

/-- A success: the frame in flight is done (R117). -/
def slotDone {α : Type} (x : Slot α) : Slot α := { x with inFlight := none }

/-- A reply handed to the reply slot (R190). -/
def State.putReply (s : State) (r : Reply) : State := { s with link := { s.link with reply := slotPut s.link.reply r } }

/-! ## Phases -/

/-- HOLD, RELEASE, RECOVER and REAPPLY (00_scope.md, Terms: Anti-lock phase). -/
def isAntiLock (p : Phase) : Bool :=
  match p with
  | .hold => true
  | .release => true
  | .recover => true
  | .reapply => true
  | .inactive => false
  | .follow => false
  | .capped => false
  | .passive => false
  | .test => false

/-- Either own channel stands in an anti-lock phase (R14, R120). -/
def State.antiLockActive (s : State) : Bool := isAntiLock s.slip.ch1.phase || isAntiLock s.slip.ch2.phase

/-- A channel's record replaced. -/
def State.setChannel (s : State) (c : Channel) (r : ChannelRec) : State := { s with slip := chanSet s.slip c r }

/-- A phase set from outside the slip controller is handed to the driver and to the view unit (R86). -/
def phaseHandoffs (c : Channel) (r : ChannelRec) : List Instr :=
  [.phaseHandoff c r.phase r.cap, .lanePhaseCopy c r.phase]

/-- The effects of a forcing on a channel record (R88). -/
def forcedRecord (r : ChannelRec) : ChannelRec :=
  { r with phase := .passive, falseOnset := 0, releaseCount := 0, stepCount := 0, strong := false, yawSpent := false,
           faultWait := false }

/-- A channel not already PASSIVE is forced PASSIVE, and the change is handed on (R88, R149, R154). -/
def State.force (s : State) (c : Channel) : State :=
  if (chanGet s.slip c).phase = .passive then s
  else (s.setChannel c (forcedRecord (chanGet s.slip c))).hand (phaseHandoffs c (forcedRecord (chanGet s.slip c)))

/-- Every channel not already PASSIVE is forced, channel 2 in JOINED too (R154). -/
def State.forceAll (s : State) : State := (s.force .ch1).force .ch2

/-- Some channel's phase is TEST. -/
def State.inTest (s : State) : Bool := decide (s.slip.ch1.phase = .test) || decide (s.slip.ch2.phase = .test)

/-- A valve test runs (R147, R196). -/
def State.testRunning (s : State) : Bool :=
  match s.service.test with
  | .running _ _ _ => true
  | .asking _ => false
  | .none => false

/-! ## Changes of the module mode -/

/-- What a change of mode from `old` to `new` hands on (R147): the driver always, the pressure unit and the report
composer into or out of QUIET, and the service responder when it leaves SERVICE for HELD, PASSIVE or LATCHED while a
valve test runs. -/
def modeHandoffs (old new : Mode) (testRuns : Bool) : List Instr :=
  [.modeChangeToDriver new]
    ++ (if (old == .quiet) != (new == .quiet) then
          [.samplePeriodChange (new == .quiet), .quietReportChange (new == .quiet)] else [])
    ++ (if old == .service && testRuns && (new == .held || new == .passive || new == .latched) then
          [.abortEvent (.modeChange new)] else [])

/-- The fault unit changes the mode and hands the change on (R145, R147). The standstill run is kept only in ACTIVE
(R174). A mode that stands is no change. -/
def State.setMode (s : State) (m : Mode) : State :=
  if s.fault.mode = m then s
  else
    { s with fault := { s.fault with mode := m }
             standstill := if s.fault.mode = Mode.active then none else s.standstill }.hand
      (modeHandoffs s.fault.mode m s.testRunning)

/-- The event makes the mode PASSIVE or LATCHED: every channel is forced at it (R154), and a channel in TEST that is
forced while no test-abort notice goes out with the mode gives the notice of R147 as well (R154). -/
def State.giveUp (s : State) (m : Mode) : State :=
  let s' := (s.setMode m).forceAll
  if s.inTest && !(decide (s.fault.mode = .service) && s.testRunning) then s'.hand [.abortEvent (.modeChange m)] else s'

/-! ## The fault memory -/

/-- The fault memory emptied (R165): the record with its latch flag, the cause-seen set and the supply event flag. -/
def emptyMemory (f : FaultUnit) : FaultUnit := { f with record := none, seen := 0, supplyEvent := false }

/-! ## The two resets (R178) -/

/-- Power-on reset: every block takes its power-on reset value. The queue and the count of free values are the model's
own and stay (log entry 2); module time reads 0 until the start sequence sets it (log entry 32). -/
def State.powerOn (s : State) : State := { State.reset with pending := s.pending, freeIndex := s.freeIndex }

/-- Warm restart: as power-on reset, but the first-fault record with its latch flag, the cause-seen set and the supply
event flag are kept (R166, R178). -/
def State.warmRestart (s : State) : State :=
  { s.powerOn with
    fault := { FaultUnit.reset with
      record := s.fault.record, seen := s.fault.seen, supplyEvent := s.fault.supplyEvent } }

end Sys2Proof.Machine
end

