-- ==== Sys2Proof/Machine/Operands.lean ====
section
/-! DEFINITION. The operand forms: codes, bytes and bits of frames, reports, alerts, requests, replies and the parameter
block (12_frame_and_block_formats.md), read and written. -/

namespace Sys2Proof.Machine

/-- Byte `i` of a payload; a byte that is not there reads as the undriven line does, all ones. -/
def byteAt (bs : List Byte) (i : Nat) : Byte := bs.getD i 255#8

/-- A byte holding a number, its low eight bits. -/
def natByte (n : Nat) : Byte := BitVec.ofNat 8 n

/-- `n` in `k` bytes, most significant first (12, opening). -/
def natBytes (k n : Nat) : List Byte := (List.range k).map fun i => natByte (n >>> (8 * (k - 1 - i)))

/-- The number that bytes `i` to `i + k - 1` hold, most significant first. -/
def bytesNat (bs : List Byte) (i k : Nat) : Nat := (List.range k).foldl (fun n j => 256 * n + (byteAt bs (i + j)).toNat) 0

/-- Bits `hi` to `lo` of a number. -/
def bitsOf (n hi lo : Nat) : Nat := (n >>> lo) % 2 ^ (hi + 1 - lo)

/-- A signed value in one byte, two's complement, widened by its sign (R38). -/
def signedByte (b : Byte) : Int := b.toInt

/-- A value clamped to -128 to 127 as a byte (R135). -/
def accelByte (a : Int) : Byte := BitVec.ofInt 8 (max (-128) (min 127 a))

/-! ## Codes -/

/-- The mode codes (R136). -/
def modeCode (m : Mode) : Nat :=
  match m with
  | .starting => 0
  | .active => 1
  | .quiet => 2
  | .service => 3
  | .held => 4
  | .passive => 5
  | .latched => 6

/-- A received mode code; 7 is taken as PASSIVE (R38). -/
def modeOfCode (n : Nat) : Mode :=
  match n with
  | 0 => .starting
  | 1 => .active
  | 2 => .quiet
  | 3 => .service
  | 4 => .held
  | 5 => .passive
  | 6 => .latched
  | _ => .passive

/-- The phase codes of the link (R35, R136). -/
def laneCodeNat (c : LaneCode) : Nat :=
  match c with
  | .openLane => 0
  | .capped => 1
  | .hold => 2
  | .release => 3
  | .recover => 4
  | .reapply => 5
  | .passive => 6
  | .test => 7

/-- The phase code a three-bit field holds (R38: taken as carried). -/
def laneCodeOf (n : Nat) : LaneCode :=
  match n with
  | 0 => .openLane
  | 1 => .capped
  | 2 => .hold
  | 3 => .release
  | 4 => .recover
  | 5 => .reapply
  | 6 => .passive
  | _ => .test

/-- The lane code of a channel's phase (R51). -/
def phaseLaneCode (p : Phase) : LaneCode :=
  match p with
  | .inactive => .openLane
  | .follow => .openLane
  | .capped => .capped
  | .hold => .hold
  | .release => .release
  | .recover => .recover
  | .reapply => .reapply
  | .passive => .passive
  | .test => .test

/-- The record's own phase code, 15 for absent (12, section 12.4). -/
def recordPhaseCode (p : Option Phase) : Nat :=
  match p with
  | some .inactive => 0
  | some .follow => 1
  | some .capped => 2
  | some .hold => 3
  | some .release => 4
  | some .recover => 5
  | some .reapply => 6
  | some .passive => 7
  | some .test => 8
  | none => 15

/-- Codes 1 to 8 of the channel faults (08, section 8.2). -/
def channelCauseCode (c : ChannelCause) : Nat :=
  match c with
  | .speedWire => 1
  | .speedJump => 2
  | .speedDead => 3
  | .chamberSensor => 4
  | .valveOpen => 5
  | .valveShort => 6
  | .releaseOverrun => 7
  | .tracking => 8

/-- Codes 9 and 10 of the reversible causes. -/
def reversibleCode (c : Reversible) : Nat :=
  match c with
  | .demandLost => 9
  | .supplyUnder => 10

/-- The sixteen cause codes (08, section 8.2). -/
def causeCode (c : Cause) : Nat :=
  match c with
  | .channel x => channelCauseCode x
  | .reversible x => reversibleCode x
  | .configBad => 11
  | .positionClash => 12
  | .allChannels => 13
  | .promoted => 14
  | .observation .linkSilent => 15
  | .observation .auxSensor => 16

/-- The cause a notice carries (R148). -/
def noticeCause (n : Notice) : Cause :=
  match n with
  | .channelFault c _ _ => .channel c
  | .configBad => .configBad
  | .positionClash => .positionClash
  | .reversible c => .reversible c
  | .observation c => .observation c

/-- Alert kind codes 1 to 8 (R139). -/
def alertKindCode (k : AlertKind) : Nat :=
  match k with
  | .lockOnset => 1
  | .cycleEnd => 2
  | .channelPassive => 3
  | .moduleHeld => 4
  | .modulePassive => 5
  | .moduleLatched => 6
  | .moduleRecovered => 7
  | .positionClash => 8

/-- The alert kind a code names, if it is one of the eight (R48). -/
def alertKindOf (n : Nat) : Option AlertKind :=
  match n with
  | 1 => some .lockOnset
  | 2 => some .cycleEnd
  | 3 => some .channelPassive
  | 4 => some .moduleHeld
  | 5 => some .modulePassive
  | 6 => some .moduleLatched
  | 7 => some .moduleRecovered
  | 8 => some .positionClash
  | _ => none

/-- Channel codes: 0 none, 1, 2 (12, section 12.3). -/
def channelCode (c : Option Channel) : Nat :=
  match c with
  | none => 0
  | some .ch1 => 1
  | some .ch2 => 2

/-- Side codes: 0 none, 1 LEFT, 2 RIGHT, 3 BOTH (12, section 12.3). -/
def alertSideCode (x : AlertSide) : Nat :=
  match x with
  | .none => 0
  | .left => 1
  | .right => 2
  | .both => 3

/-- Test step codes: 0 HOLD, 1 EXHAUST, 2 PASS (12, section 12.4). -/
def testStepCode (x : TestStep) : Nat :=
  match x with
  | .hold => 0
  | .exhaust => 1
  | .pass => 2

/-- The pattern of a test step (R195). -/
def testStepPattern (x : TestStep) : Pattern :=
  match x with
  | .hold => .hold
  | .exhaust => .exhaust
  | .pass => .pass

/-- A channel's wheel side in SPLIT; channel 1 is LEFT and channel 2 RIGHT (R83). -/
def channelSide (c : Channel) : Side :=
  match c with
  | .ch1 => .left
  | .ch2 => .right

/-- The channel an input serves (R16). -/
def servedChannel (a : Arrangement) (i : Side) : Channel :=
  match a, i with
  | .joined, _ => .ch1
  | .split, .left => .ch1
  | .split, .right => .ch2

/-- The lane number 2p or 2p + 1 (00_scope.md, Positions, sides and lanes). -/
def laneNumber (p : Position) (i : Side) : Nat :=
  match i with
  | .left => 2 * p.val
  | .right => 2 * p.val + 1

/-- The phase code of a lane in the active mask's set (R60). -/
def laneAntiLock (c : LaneCode) : Bool :=
  match c with
  | .hold => true
  | .release => true
  | .recover => true
  | .reapply => true
  | .openLane => false
  | .capped => false
  | .passive => false
  | .test => false

/-! ## Frames on the line (R115) -/

/-- The frame kind codes a station sends (R115). -/
def kindAlert : Nat := 0
/-- The frame kind code of a STATUS (R115). -/
def kindStatus : Nat := 1
/-- The frame kind code of a SERVICE_REQ (R115). -/
def kindRequest : Nat := 6
/-- The frame kind code of a SERVICE_REPLY (R115). -/
def kindReply : Nat := 7

/-- The contention field: urgency times 64, plus kind times 8, plus position (R120). -/
def contentionField (urgency kind : Nat) (p : Position) : Byte := natByte (64 * urgency + 8 * kind + p.val)

/-- The bits the check is computed over: contention field, length, payload (R116). -/
def checkedBits (contention : Byte) (payload : List Byte) : List Bit :=
  byteBits contention ++ natBits 4 payload.length ++ bytesBits payload

/-- A frame with its check (R116). -/
def mkFrame (contention : Byte) (payload : List Byte) : Frame :=
  { contention := contention, payload := payload, check := crcBits (checkedBits contention payload) }

/-- The bits of a frame from its start bit to the end of its end field (R115). -/
def frameBits (f : Frame) : List Bit :=
  [false] ++ checkedBits f.contention f.payload ++ natBits 16 f.check.toNat ++ List.replicate 7 true

/-- `k` bits from bit `i`; a bit that is not there is recessive, as no device drives the line. -/
def bitsAt (bits : List Bit) (i k : Nat) : List Bit := (List.range k).map fun j => bits.getD (i + j) true

/-- A frame as the receive side reads it: the fields by its own reading of the length field (R113, R115). -/
structure ReadFrame where
  contention : Nat
  length : Nat
  payload : List Byte
  check : Nat
  computed : Nat
  endRecessive : Bool
  deriving DecidableEq, Repr

/-- The fields of a frame read from its start bit on (R115); the check is computed over the bits read (R116). -/
def readFrame (bits : List Bit) : ReadFrame :=
  let n := bitsNat (bitsAt bits 9 4)
  { contention := bitsNat (bitsAt bits 1 8)
    length := n
    payload := (List.range n).map fun j => natByte (bitsNat (bitsAt bits (13 + 8 * j) 8))
    check := bitsNat (bitsAt bits (13 + 8 * n) 16)
    computed := (crcBits (bitsAt bits 1 (12 + 8 * n))).toNat
    endRecessive := (bitsAt bits (29 + 8 * n) 7).all id }

/-- Kind of a contention field value (12, section 12.1). -/
def fieldKind (contention : Nat) : Nat := bitsOf contention 5 3

/-- Sending position of a contention field value (12, section 12.1). -/
def fieldPosition (contention : Nat) : Fin 8 := Fin.ofNat 8 contention

/-! ## STATUS payload (12, section 12.2) -/

/-- One flag at a bit. -/
def flagAt (b : Bool) (k : Nat) : Nat := if b then 2 ^ k else 0

/-- The pressure byte: units of 100 mbar, or 255 absent (R135). -/
def pressureByte (p : Option Nat) : Byte :=
  match p with
  | some n => natByte n
  | none => 255#8

/-- A received pressure byte: present when 0 to 150 (R38). -/
def pressureOfByte (b : Byte) : Option Nat := if b.toNat ≤ 150 then some b.toNat else none

/-- Byte 1 of a STATUS: mode, arrangement, presence. -/
def statusByte1 (r : StatusReport) : Nat :=
  32 * modeCode r.mode + flagAt (r.arrangement == .joined) 4 + flagAt r.demand.isSome 3 + flagAt r.reservoir.isSome 2
    + flagAt r.left.speed.isSome 1 + flagAt r.right.speed.isSome 0

/-- Byte 2 of a STATUS: flags and active-mask bits. -/
def statusByte2 (r : StatusReport) : Nat :=
  flagAt r.economy 7 + flagAt r.alone 6 + flagAt r.trackingWarning 5 + flagAt r.supplySag 4 + flagAt r.coasting 3
    + flagAt r.maskLeft 2 + flagAt r.maskRight 1

/-- The 48-bit field of bytes 3 to 8. -/
def statusField48 (r : StatusReport) : Nat :=
  (r.vref % 2 ^ 14) * 2 ^ 34 + (r.left.speed.getD 0 % 2 ^ 14) * 2 ^ 20 + (r.right.speed.getD 0 % 2 ^ 14) * 2 ^ 6
    + laneCodeNat r.left.code * 8 + laneCodeNat r.right.code

/-- The 13 bytes of a STATUS with its sequence (R134, R197). -/
def encodeStatus (seq : Byte) (r : StatusReport) : List Byte :=
  [seq, natByte (statusByte1 r), natByte (statusByte2 r)] ++ natBytes 6 (statusField48 r)
    ++ [accelByte r.left.accel, accelByte r.right.accel, pressureByte r.demand, pressureByte r.reservoir]

/-- What a receiver reads from a STATUS (R38, R197). -/
structure ReadStatus where
  seq : Byte
  mode : Mode
  arrangement : Arrangement
  vref : Nat
  demand : Option Nat
  reservoir : Option Nat
  lanes : Sides Lane
  deriving DecidableEq, Repr

/-- A STATUS payload read: presence of a lane by its bit, of a pressure by its byte (R38, R197). -/
def decodeStatus (p : List Byte) : ReadStatus :=
  let b1 := (byteAt p 1).toNat
  let f := bytesNat p 3 6
  { seq := byteAt p 0
    mode := modeOfCode (bitsOf b1 7 5)
    arrangement := if b1.testBit 4 then .joined else .split
    vref := bitsOf f 47 34
    demand := pressureOfByte (byteAt p 11)
    reservoir := pressureOfByte (byteAt p 12)
    lanes :=
      { left := { speed := if b1.testBit 1 then some (bitsOf f 33 20) else none, accel := signedByte (byteAt p 9),
                  code := laneCodeOf (bitsOf f 5 3) }
        right := { speed := if b1.testBit 0 then some (bitsOf f 19 6) else none, accel := signedByte (byteAt p 10),
                   code := laneCodeOf (bitsOf f 2 0) } } }

/-! ## ALERT payload (12, section 12.3) -/

/-- The three bytes of an alert entry (R141, R197). -/
def encodeAlert (a : Alert) : List Byte :=
  [natByte (alertKindCode a.kind), natByte (64 * channelCode a.channel + 16 * alertSideCode a.side), natByte a.value]

/-- The payload of an alert group, in group order (R141). -/
def encodeAlerts (g : List Alert) : List Byte := g.flatMap encodeAlert

/-- What a receiver reads of one alert entry: kind code and channel field; side and spare bits are not read (R197), and
no receiving rule keeps the value (R46, R47). -/
structure ReadAlert where
  kind : Nat
  channel : Nat
  deriving DecidableEq, Repr

/-- The alert entries of a payload of 3n bytes, in frame order (R45). -/
def decodeAlerts (p : List Byte) : List ReadAlert :=
  (List.range (p.length / 3)).map fun i =>
    { kind := (byteAt p (3 * i)).toNat, channel := bitsOf (byteAt p (3 * i + 1)).toNat 7 6 }

/-! ## Service frames (12, section 12.4) -/

/-- The target position of a request (R198). -/
def requestTarget (r : ServiceReq) : Nat := bitsOf r.byte0.toNat 2 0

/-- Request kind 1, READ_RECORD. -/
def reqReadRecord : Byte := 1#8
/-- Request kind 2, READ_STATS. -/
def reqReadStats : Byte := 2#8
/-- Request kind 3, CLEAR. -/
def reqClear : Byte := 3#8
/-- Request kind 4, RESTART. -/
def reqRestart : Byte := 4#8
/-- Request kind 5, VALVE_TEST. -/
def reqValveTest : Byte := 5#8

/-- The channel a VALVE_TEST argument names (R189). -/
def argChannel (b : Byte) : Option Channel := if b = 1#8 then some .ch1 else if b = 2#8 then some .ch2 else none

/-- The command that a SERVICE_REQ's kind and argument name (R189, first case; the table's rows). -/
def requestCommand (kind : Byte) (r : ServiceReq) : Instr :=
  if kind = reqReadRecord then .readRecord r
  else if kind = reqReadStats then .readStats r
  else if kind = reqClear then .clear r
  else if kind = reqRestart then .restart r
  else if kind = reqValveTest ∧ (argChannel r.arg).isSome then .valveTest r
  else .badRequest kind r

/-- The outcomes of a reply: 0 DONE, 1 STARTED, 2 ABORTED, 3 REFUSED. -/
inductive ReplyOutcome where
  | done
  | started
  | aborted
  | refused
  deriving DecidableEq, Repr

/-- The reasons of a reply: 0 none to 5 BAD_REQUEST. -/
inductive ReplyReason where
  | none
  | moving
  | braking
  | busy
  | supply
  | badRequest
  deriving DecidableEq, Repr

/-- The outcome's code. -/
def outcomeCode (x : ReplyOutcome) : Nat :=
  match x with
  | .done => 0
  | .started => 1
  | .aborted => 2
  | .refused => 3

/-- The reason's code. -/
def reasonCode (x : ReplyReason) : Nat :=
  match x with
  | .none => 0
  | .moving => 1
  | .braking => 2
  | .busy => 3
  | .supply => 4
  | .badRequest => 5

/-- A reply's payload: request kind as received, outcome, reason and own position, then the data (R190). -/
def replyBytes (p : Position) (kind : Byte) (o : ReplyOutcome) (why : ReplyReason) (data : List Byte) : List Byte :=
  [kind, natByte (64 * outcomeCode o + 8 * reasonCode why + p.val)] ++ data

/-- A channel number as a data byte. -/
def channelByte (c : Channel) : Byte := natByte (channelCode (some c))

/-- Bytes 2 to 13 of the READ_RECORD reply (R191; 12, section 12.4). -/
def recordData (f : FaultUnit) (clamped : Bool) : List Byte :=
  match f.record with
  | none =>
    [natByte (flagAt clamped 5 + flagAt f.supplyEvent 4), 0#8, 0#8, natByte (16 * recordPhaseCode none)]
      ++ natBytes 4 0 ++ natBytes 2 0 ++ natBytes 2 f.seen.toNat
  | some r =>
    [natByte (128 + flagAt r.latch 6 + flagAt clamped 5 + flagAt f.supplyEvent 4), natByte (causeCode r.cause),
      natByte (64 * channelCode r.channel + 8 * modeCode r.modeBefore), natByte (16 * recordPhaseCode r.phase)]
      ++ natBytes 4 r.time ++ natBytes 2 (r.vref % 2 ^ 14) ++ natBytes 2 f.seen.toNat

/-- Bytes 2 to 13 of the READ_STATS reply (R191; 12, section 12.4). -/
def statsData (x : LinkStats) : List Byte :=
  natBytes 2 x.receiveErrors ++ natBytes 2 x.foreignFrames ++ natBytes 2 x.transmitErrors ++ natBytes 2 x.alertDrops
    ++ natBytes 2 x.duplicates ++ natBytes 2 x.gaps

/-! ## Parameter block (12, section 12.5) -/

/-- A sensor value of each input, two bytes each, from byte `i`. -/
def perSensorAt (bs : List Byte) (i : Nat) : PerSensor :=
  { demand := bytesNat bs i 2, chamber1 := bytesNat bs (i + 2) 2, chamber2 := bytesNat bs (i + 4) 2,
    reservoir := bytesNat bs (i + 6) 2 }

/-- The parameters as stored in the block. -/
def storedParams (bs : List Byte) : Params :=
  { stations := bytesNat bs 1 1, freeRolling := BitVec.ofNat 4 (byteAt bs 2).toNat, teeth := bytesNat bs 3 1,
    circLeft := bytesNat bs 4 2, circRight := bytesNat bs 6 2, jumpLimit := bytesNat bs 8 2, dramp := bytesNat bs 10 1,
    aramp := bytesNat bs 11 1, tolerance := bytesNat bs 12 2, slipAbs := bytesNat bs 14 2, slipRel := bytesNat bs 16 1,
    a1 := bytesNat bs 17 1, a2 := bytesNat bs 18 1, a3 := bytesNat bs 19 2, vEntry := bytesNat bs 21 2,
    vMin := bytesNat bs 23 2, pOn := bytesNat bs 25 2, pOff := bytesNat bs 27 2, deltaP := bytesNat bs 29 2,
    stepPeriod := bytesNat bs 31 1, tRelMax := bytesNat bs 32 1, yawMargin := bytesNat bs 33 2,
    yawStep := bytesNat bs 35 1, pEcon := bytesNat bs 36 2, kp := bytesNat bs 38 1, ki := bytesNat bs 39 1,
    uOn := bytesNat bs 40 2, offsets := perSensorAt bs 42, gains := perSensorAt bs 50 }

end Sys2Proof.Machine
end

