-- ==== Sys2Proof/Machine/Flags.lean ====
section
/-! DEFINITION. The flags the spec computes: braking, economy, alone, the flags of a STATUS, usable channels. -/

namespace Sys2Proof.Machine

/-- The braking flag after a sample that settles Pd (R28). -/
def brakingAfter (pOn pOff : Nat) (before : Bool) (pd : Nat) : Bool :=
  if before then decide (pOff ≤ pd) else decide (pOn ≤ pd)

/-- The economy flag after a sample, from the runs updated at it (R30): set when the low run is 500 ms old, cleared when
the high run is 2000 ms old. -/
def economyAfter (before : Bool) (low high : Option Time) (t : Time) : Bool :=
  if aged low t 500000 then true else if aged high t 2000000 then false else before

/-- The entry of an expected position keeps the alone flag set: LOST, or EMPTY and missing (R49). -/
def entryAlone (missing : MissingTimer) (e : PeerEntry) : Bool :=
  match e.state with
  | .lost => true
  | .empty => decide (missing = .expired)
  | .fresh => false
  | .stale => false

/-- The alone flag as R49 gives it. -/
def State.aloneNow (s : State) : Bool :=
  positions.all fun p => !s.expects p || entryAlone s.view.missing (quadGet s.view.peers p)

/-- The alone flag evaluated (R49). -/
def State.evalAlone (s : State) : State := { s with view := { s.view with alone := s.aloneNow } }

/-- A channel's part of the tracking-warning flag (R103, R138). -/
def channelWarns (c : DriverChan) : Bool := c.warning || c.woundUp

/-- The tracking-warning flag of a STATUS (R138). -/
def State.trackingWarning (s : State) : Bool := channelWarns s.driver.chans.ch1 || channelWarns s.driver.chans.ch2

/-- The supply state is SAG or UNDER (R102, R138). -/
def supplyLow (x : SupplyState) : Bool :=
  match x with
  | .normal => false
  | .sag => true
  | .under => true

/-- The coasting flag of a STATUS: the count is above 40 (R57). -/
def State.coastingFlag (s : State) : Bool := decide (40 < s.view.coasting)

/-- A lane is in the active mask (R60). -/
def inMask (mask : BitVec 8) (lane : Nat) : Bool := mask.getLsbD lane

/-- The arrangement uses the channel: channel 2 in SPLIT only (R150). -/
def usesChannel (a : Arrangement) (c : Channel) : Bool :=
  match a, c with
  | _, .ch1 => true
  | .split, .ch2 => true
  | .joined, .ch2 => false

/-- The channel is usable (R150). -/
def State.usable (s : State) (c : Channel) : Bool :=
  usesChannel s.arrangement c && decide ((chanGet s.slip c).phase ≠ .passive)

/-- Some usable channel remains (R150). -/
def State.anyUsable (s : State) : Bool := s.usable .ch1 || s.usable .ch2

/-- The driver lets the phase decide the pattern in this mode (R94). -/
def phaseDecides (m : Mode) : Bool :=
  match m with
  | .active => true
  | .quiet => true
  | .service => true
  | .starting => false
  | .held => false
  | .passive => false
  | .latched => false

/-- CAPPED and REAPPLY, whose pattern tracking sets (R94). -/
def isTracked (p : Phase) : Bool :=
  match p with
  | .capped => true
  | .reapply => true
  | .inactive => false
  | .follow => false
  | .hold => false
  | .release => false
  | .recover => false
  | .passive => false
  | .test => false

end Sys2Proof.Machine
end

