-- ==== Sys2Proof/Machine/Report.lean ====
section
/-! DEFINITION. The report composer (07_reports_and_alerts.md): REPORT_TIMER_EXPIRY, QUIET_REPORT_CHANGE,
STATUS_SUCCESS_NOTICE, ALERT_HANDED, ALERT_SENT, ALERT_RETURNED. -/

namespace Sys2Proof.Machine

/-! ## Composing a STATUS (R132 to R138) -/

/-- The report period of a mode, in microseconds (R132). -/
def reportPeriod (m : Mode) : Nat := if m = .quiet then 500000 else 10000

/-- A pressure for the link: floor(P / 100) while the sensor is GOOD (R33, R135). -/
def linkPressure (x : Sensor) : Option Nat :=
  match x.state with
  | .good => some (x.reading / 100)
  | .failed => none

/-- An own lane as reported: accel clamped to -128 to 127, and an absent lane with accel 0 (R135, R197). -/
def reportedLane (x : Lane) : Lane :=
  { x with accel := if x.speed.isSome then max (-128) (min 127 x.accel) else 0 }

/-- A STATUS composed from the state of every owner as it stands (R133, R134). The mode is the fault unit's as it stands
(R133, R136), also between its change into or out of QUIET and the composer's taking of that change: DEDUCED, log entry
31. -/
def State.composed (s : State) : StatusReport :=
  { mode := s.fault.mode, arrangement := s.arrangement, demand := linkPressure s.pressure.demand
    reservoir := linkPressure s.pressure.reservoir
    left := reportedLane (quadGet s.view.lanes s.position).left
    right := reportedLane (quadGet s.view.lanes s.position).right
    economy := s.pressure.economy, alone := s.view.alone, trackingWarning := s.trackingWarning
    supplySag := supplyLow s.supply.state, coasting := s.coastingFlag
    maskLeft := inMask s.view.mask (laneNumber s.position .left)
    maskRight := inMask s.view.mask (laneNumber s.position .right), vref := s.view.vref }

/-- A STATUS composed into the STATUS slot, and the report timer set at `t` to `micros` (R132, R133, R117). -/
def State.report (s : State) (t : Time) (micros : Nat) : State :=
  { s with link := { s.link with status := slotPut s.link.status s.composed }
           composer := { s.composer with timer := setTimer t micros } }

/-- The report timer expires; a composer not started has no timer, and an expiry that is not due is void (R132). The period
is that of the fault unit's mode as it stands, also before the composer has taken that mode's change: DEDUCED, log entry
31. -/
def State.expireReport (s : State) (t : Time) : State :=
  if timerDue s.composer.timer t then s.report t (reportPeriod s.fault.mode) else s

/-- REPORT_TIMER_EXPIRY (R132 to R138). -/
def execReportTimerExpiry (t : Time) (s : State) : Host.Outcome State Fault Refusal :=
  .next ((s.stamp t).expireReport t)

/-- A change of mode into or out of QUIET taken by a composer that has been started (R132). -/
def State.reportQuietChange (s : State) (intoQuiet : Bool) : State :=
  if s.composer.timer.isSome then s.report s.now (if intoQuiet then 500000 else 10000) else s

/-- QUIET_REPORT_CHANGE (R132), taken in its turn (R147). -/
def execQuietReportChange (intoQuiet : Bool) (s : State) : Host.Outcome State Fault Refusal :=
  .next (s.takeInTurn (.quietReportChange intoQuiet) fun x => x.reportQuietChange intoQuiet)

/-- The sent count rises by 1 modulo 256 (R137). -/
def State.countSent (s : State) : State := { s with composer := { s.composer with sent := s.composer.sent + 1 } }

/-- STATUS_SUCCESS_NOTICE (R137). -/
def execStatusSuccessNotice (s : State) : Host.Outcome State Fault Refusal :=
  .next ((s.take .statusSuccessNotice).countSent)

/-! ## The alert queue (R139, R140) -/

/-- The side of an alert (R139); channel 2 sends no alert in JOINED. -/
def alertSide (a : Arrangement) (c : Option Channel) : Option AlertSide :=
  match a, c with
  | _, none => some .none
  | .split, some .ch1 => some .left
  | .split, some .ch2 => some .right
  | .joined, some .ch1 => some .both
  | .joined, some .ch2 => none

/-- The value an alert carries: floor(P_lock / 100) for LOCK_ONSET, as handed for the others (R139). -/
def alertValue (k : AlertKind) (value : Nat) : Nat := if k = .lockOnset then value / 100 else value

/-- Two alerts are of the same kind and the same channel (R140). -/
def sameEvent (a b : Alert) : Bool := decide (a.kind = b.kind) && decide (a.channel = b.channel)

/-- The waiting alerts of the new one's kind and channel take its value (R140, first case). -/
def mergeAlert (a : Alert) (q : List Alert) : List Alert :=
  q.map fun b => if sameEvent a b then { b with value := a.value } else b

/-- The queue after an alert is handed, and the number dropped (R140). -/
def enqueueAlert (a : Alert) (q : List Alert) : List Alert × Nat :=
  if q.any (sameEvent a) then (mergeAlert a q, 0)
  else if q.length < 4 then (q ++ [a], 0)
  else (q.drop 1 ++ [a], 1)

/-- The queue replaced and the drops counted (R129, R140). -/
def State.setQueue (s : State) (q : List Alert) (drops : Nat) : State :=
  { s with composer := { s.composer with queue := q } }.addAlertDrops drops

/-- An alert taken by the composer (R139, R140). -/
def State.takeAlertHanded (s : State) (k : AlertKind) (c : Option Channel) (value : Nat) : State :=
  match alertSide s.arrangement c with
  | some side =>
    let r := enqueueAlert { kind := k, channel := c, side := side, value := alertValue k value } s.composer.queue
    s.setQueue r.1 r.2
  | none => s

/-- ALERT_HANDED (R139, R140); the alerts of the fault unit join in the order they are handed (R155). -/
def execAlertHanded (k : AlertKind) (c : Option Channel) (value : Nat) (s : State) : Host.Outcome State Fault Refusal :=
  .next (s.takeInTurn (.alertHanded k c value) fun x => if x.begun then x.takeAlertHanded k c value else x)

/-! ## The outcome of a group (R142, R143) -/

/-- The in-flight group emptied. -/
def State.endGroup (s : State) : State := { s with composer := { s.composer with group := [] } }

/-- ALERT_SENT (R142). -/
def execAlertSent (s : State) : Host.Outcome State Fault Refusal := .next ((s.take .alertSent).endGroup)

/-- A returned alert with the value of an alert of the same kind and channel that joined meanwhile (R143, step 1). -/
def renewed (q : List Alert) (a : Alert) : Alert :=
  match q.find? (sameEvent a) with
  | some b => { a with value := b.value }
  | none => a

/-- The group and the queue merged: returned alerts ahead, in their own order, the newer entries removed (R143, step
1). -/
def mergeReturned (g q : List Alert) : List Alert := g.map (renewed q) ++ q.filter fun b => !g.any (sameEvent b)

/-- The oldest removed from the head until 4 remain, with the number dropped (R143, step 2). -/
def dropToFour (q : List Alert) : List Alert × Nat := (q.drop (q.length - 4), q.length - 4)

/-- The group returned to the head of the queue (R143). -/
def State.returnGroup (s : State) : State :=
  let r := dropToFour (mergeReturned s.composer.group s.composer.queue)
  (s.endGroup).setQueue r.1 r.2

/-- ALERT_RETURNED, on FAILED or on LOST (R143). -/
def execAlertReturned (o : AlertReturn) (s : State) : Host.Outcome State Fault Refusal :=
  .next ((s.take (.alertReturned o)).returnGroup)

end Sys2Proof.Machine
end

