-- ==== Sys2Proof/Machine/AxleLink.lean ====
section
/-! DEFINITION. The link controller (06_the_axle_link.md): RECEIVE_FRAME, STUCK_EXPIRY, LINE_IDLE, TRANSMIT_START,
CONTENTION_LOSS, TRANSMIT_ERROR, TRANSMIT_SUCCESS, SILENCE_EXPIRY. -/

namespace Sys2Proof.Machine

/-! ## The line (R113, R114) -/

/-- The line state at a bit read (R113), the bits inside a frame apart, which RECEIVE_FRAME reads. -/
def lineBit (x : LineState) (b : Bit) : LineState :=
  match x, b with
  | .settling n k, true => if n ≤ k + 1 then .idle else .settling n (k + 1)
  | .settling n _, false => .settling n 0
  | .idle, true => .idle
  | .idle, false => .frame
  | .frame, _ => .frame

/-- The stuck timer and its taken mark at a bit read: 4 µs more for a dominant bit, up to 10 ms, and 0 at a recessive one
(R114). -/
def stuckBit (x : Nat × Bool) (b : Bit) : Nat × Bool := if b then (0, false) else (min 10000 (x.1 + 4), x.2)

/-- The stuck timer over bits read (R114). -/
def State.timeStuck (s : State) (bits : List Bit) : State :=
  let r := bits.foldl stuckBit (s.link.stuck, s.link.stuckTaken)
  { s with link := { s.link with stuck := r.1, stuckTaken := r.2 } }

/-- The line state replaced. -/
def State.setLine (s : State) (x : LineState) : State := { s with link := { s.link with line := x } }

/-- The line state settled from bits read; a line that becomes IDLE does so now, and ends a wait for the next idle (R113,
R126). -/
def State.settleLine (s : State) (x : LineState) : State :=
  if x = .idle ∧ s.link.line ≠ .idle then
    { s with link := { s.link with line := x, idleSince := some s.now, awaitIdle := false } }
  else s.setLine x

/-- Bits read outside a frame (R113). -/
def State.readBits (s : State) (bits : List Bit) : State :=
  if s.unitsOn then (s.settleLine (bits.foldl lineBit s.link.line)).timeStuck bits else s

/-- LINE_IDLE: the bits read while SETTLING, the last of which brings the count to n (R113). -/
def execLineIdle (t : Time) (bits : List Bit) (s : State) : Host.Outcome State Fault Refusal :=
  .next ((s.stamp t).readBits bits)

/-- The line read dominant for 10 ms; the expiry comes once for each unbroken dominant run (R114). -/
def State.takeStuck (s : State) : State :=
  if s.unitsOn && !s.link.stuckTaken then
    { s with link := { s.link with line := .settling 10 0, stuck := 10000, stuckTaken := true } }.hand
      [.faultNotice (.observation .linkSilent)]
  else s

/-- STUCK_EXPIRY (R114). -/
def execStuckExpiry (t : Time) (s : State) : Host.Outcome State Fault Refusal := .next ((s.stamp t).takeStuck)

/-! ## Reception (R127, R128) -/

/-- A SERVICE_REQ from position 7: handed to the service responder, or, with a length other than 3, counted as a receive
error. One that comes before the responder is started at the listen expiry is dropped: it is never judged, counted or
answered, not even after the expiry (R128, R185, R198; log entry 23). -/
def State.dispatchRequest (s : State) (payload : List Byte) : State :=
  if !s.responderOn then s
  else if payload.length = 3 then
    s.hand [requestCommand (byteAt payload 1) { length := 3, byte0 := byteAt payload 0, arg := byteAt payload 2 }]
  else s.addReceiveError

/-- A good frame that is not own read-back, dispatched by kind and position (R128). -/
def State.dispatch (s : State) (kind : Nat) (sender : Fin 8) (payload : List Byte) : State :=
  if kind = kindAlert then s.hand [.alertReceived sender payload]
  else if kind = kindStatus then s.hand [.statusReceived sender payload]
  else if kind = kindRequest ∧ sender.val = 7 then s.dispatchRequest payload
  else if sender.val = s.position.val then s.hand [.faultNotice .positionClash]
  else if kind = kindReply then s
  else s.addForeign 1

/-- A frame is good (R127): its length is valid, its check agrees and its end field is recessive. -/
def ReadFrame.good (f : ReadFrame) : Bool :=
  decide (f.length ≠ 15) && decide (f.check = f.computed) && f.endRecessive

/-- The line state after a frame: SETTLING, needing 10 after an invalid length and 3 after the end field (R113). -/
def lineAfterFrame (f : ReadFrame) : LineState := if f.length = 15 then .settling 10 0 else .settling 3 0

/-- A framed frame judged (R127): bad frames count, own read-back is not handed on, other good frames are dispatched. -/
def State.judgeFrame (s : State) (f : ReadFrame) : State :=
  if !f.good then s.addReceiveError
  else if s.link.ownSending then s
  else s.dispatch (fieldKind f.contention) (fieldPosition f.contention) f.payload

/-- The frame is over: the line settles and no own frame is on it. -/
def State.endFrame (s : State) (f : ReadFrame) : State :=
  { s with link := { s.link with line := lineAfterFrame f, ownSending := false } }

/-- A frame taken by the receive side (R113, R127). A dominant bit read while SETTLING is never a start bit, and a frame
begins with a dominant bit. -/
def State.takeFrame (s : State) (bits : List Bit) : State :=
  if s.unitsOn then
    match s.link.line, bits with
    | .settling _ _, _ => s.readBits bits
    | _, [] => s
    | _, true :: _ => s
    | _, false :: _ => ((s.judgeFrame (readFrame bits)).endFrame (readFrame bits)).timeStuck bits
  else s

/-- RECEIVE_FRAME (R113, R115, R116, R127, R128). -/
def execReceiveFrame (t : Time) (bits : List Bit) (s : State) : Host.Outcome State Fault Refusal :=
  .next ((s.stamp t).takeFrame bits)

/-! ## Starting a frame (R118 to R120, R141) -/

/-- No frame of the station is in flight. -/
def State.nothingInFlight (s : State) : Bool :=
  s.link.status.inFlight.isNone && s.link.alert.isNone && s.link.reply.inFlight.isNone

/-- The urgency of a STATUS by the channels' phases at the start bit (R120). -/
def State.statusUrgency (s : State) : Nat := if s.antiLockActive then 1 else 2

/-- The ALERT slot chosen: every queued alert forms the group and its frame, at urgency 0 (R118, R141). -/
def State.startAlert (s : State) : State :=
  { s with composer := { s.composer with group := s.composer.queue, queue := [] }
           link := { s.link with
             alert := some (mkFrame (contentionField 0 kindAlert s.position) (encodeAlerts s.composer.queue)) } }

/-- The frame of a STATUS: its urgency, and the sequence sent count plus 1, are settled at the start bit (R119, R120). -/
def State.statusFrame (s : State) (r : StatusReport) : Frame :=
  mkFrame (contentionField s.statusUrgency kindStatus s.position) (encodeStatus (s.composer.sent + 1) r)

/-- The frame of a reply, at urgency 3 (R120). -/
def State.replyFrame (s : State) (r : Reply) : Frame := mkFrame (contentionField 3 kindReply s.position) r.payload

/-- The STATUS slot chosen (R119). -/
def State.startStatus (s : State) (r : StatusReport) : State :=
  { s with link := { s.link with
      status := { inFlight := some { body := r, frame := s.statusFrame r }, waiting := none } } }

/-- The reply slot chosen (R119). -/
def State.startReply (s : State) (r : Reply) : State :=
  { s with link := { s.link with
      reply := { inFlight := some { body := r, frame := s.replyFrame r }, waiting := none } } }

/-- The ALERT slot has a frame to offer: the queue holds an alert, and no group awaits its outcome (R118, R141, log
entry 14). -/
def State.alertOffered (s : State) : Bool := !s.composer.queue.isEmpty && s.composer.group.isEmpty

/-- A slot has a frame to offer (R119). -/
def State.frameOffered (s : State) : Bool :=
  s.alertOffered || s.link.status.waiting.isSome || s.link.reply.waiting.isSome

/-- The slot chosen: ALERT, STATUS, reply, in this order (R119). -/
def State.startChosen (s : State) : State :=
  if s.alertOffered then s.startAlert
  else
    match s.link.status.waiting, s.link.reply.waiting with
    | some r, _ => s.startStatus r
    | none, some r => s.startReply r
    | none, none => s

/-- The station's start bit is on the line: the receive side frames it (R113, R127). -/
def State.beginSending (s : State) : State := { s with link := { s.link with line := .frame, ownSending := true } }

/-- The transmit side may start a frame (R119): ENABLED, the line IDLE, a frame to offer, none in flight, and no wait for
the next idle (R126). -/
def State.mayStart (s : State) : Bool :=
  decide (s.link.tx = .enabled) && decide (s.link.line = .idle) && !s.link.awaitIdle && s.frameOffered
    && s.nothingInFlight

/-- A frame started (R119). -/
def State.startFrame (s : State) : State := if s.mayStart then (s.startChosen).beginSending else s

/-- TRANSMIT_START (R116, R118 to R120, R137, R141). -/
def execTransmitStart (t : Time) (s : State) : Host.Outcome State Fault Refusal := .next ((s.stamp t).startFrame)

/-! ## Outcomes of a transmission (R121 to R124) -/

/-- The outcome of a contention bit sent and read (R121). -/
inductive ContentionOutcome where
  | continues
  | lost
  | error
  deriving DecidableEq, Repr

/-- R121's table. -/
def contentionOutcome (sent read : Bit) : ContentionOutcome :=
  match sent, read with
  | false, false => .continues
  | true, true => .continues
  | true, false => .lost
  | false, true => .error

/-- The frame in flight. -/
def State.frameInFlight (s : State) : Option Frame :=
  match s.link.alert, s.link.status.inFlight, s.link.reply.inFlight with
  | some f, _, _ => some f
  | none, some x, _ => some x.frame
  | none, none, some x => some x.frame
  | none, none, none => none

/-- Bit `k` of the frame in flight, from its start bit, or none past its end. -/
def State.sentBit (s : State) (k : Nat) : Option Bit :=
  match s.frameInFlight with
  | some f => (frameBits f)[k]?
  | none => none

/-- The frame in flight leaves the line without success: a STATUS or reply goes back to waiting or is dropped (R117), an
ALERT's outcome goes to the report composer (R118). -/
def State.returnFrame (s : State) (o : AlertReturn) : State :=
  let s' := { s with link := { s.link with
    status := slotReturn s.link.status, reply := slotReturn s.link.reply, alert := none, ownSending := false } }
  if s.link.alert.isSome then s'.hand [.alertReturned o] else s'

/-- Loss at contention bit `k`: the bit sent is recessive and dominant is read (R121). -/
def State.loseContention (s : State) (k : Fin 8) : State :=
  match s.sentBit (k.val + 1) with
  | some b => if contentionOutcome b false = .lost then s.returnFrame .lost else s
  | none => s

/-- CONTENTION_LOSS (R117, R118, R121). -/
def execContentionLoss (t : Time) (k : Fin 8) (s : State) : Host.Outcome State Fault Refusal :=
  .next ((s.stamp t).loseContention k)

/-- The consecutive count after an error, at most 8 (R123, R125). -/
def countError (n : Nat) : Nat := min 8 (n + 1)

/-- The transmitter becomes SILENT at the eighth consecutive error (R123, R126). -/
def State.judgeSilence (s : State) (t : Time) : State :=
  if s.link.consecutive = 8 then
    { s with link := { s.link with tx := .silent, silence := setTimer t 1000000 } }.hand
      [.faultNotice (.observation .linkSilent)]
  else s

/-- The effects of a transmit error (R123). -/
def State.countTransmitError (s : State) (t : Time) : State :=
  let s' := (s.returnFrame .failed).addTransmitError
  { s' with link := { s'.link with consecutive := countError s.link.consecutive } }.judgeSilence t

/-- A mismatch at bit `k` of a frame is a transmit error, unless it is a recessive contention bit read dominant (R122). -/
def mismatchIsError (k : Nat) (sent : Bit) : Bool := !(decide (1 ≤ k) && decide (k ≤ 8) && sent)

/-- A start bit read recessive is no start bit to the receive side, which stays IDLE (R113, R122). -/
def State.reframe (s : State) (k : Nat) : State := if k = 0 then s.setLine .idle else s

/-- A read-back mismatch at bit `k` of the frame in flight (R122, R123). -/
def State.takeMismatch (s : State) (t : Time) (k : Nat) : State :=
  match s.sentBit k with
  | some b => if mismatchIsError k b then (s.countTransmitError t).reframe k else s
  | none => s

/-- TRANSMIT_ERROR (R117, R118, R122, R123, R126). -/
def execTransmitError (t : Time) (k : Nat) (s : State) : Host.Outcome State Fault Refusal :=
  .next ((s.stamp t).takeMismatch t k)

/-- The success of the frame in flight is handed to the block that supplied it (R118, R124). -/
def State.successNotice (s : State) : List Instr :=
  match s.link.alert, s.link.status.inFlight, s.link.reply.inFlight with
  | some _, _, _ => [.alertSent]
  | none, some _, _ => [.statusSuccessNotice]
  | none, none, some x => [.replySuccessNotice x.body.restartReply]
  | none, none, none => []

/-- A frame that completed without error (R124). -/
def State.completeFrame (s : State) : State :=
  if s.frameInFlight.isSome then
    { s with link := { s.link with
        consecutive := 0, alert := none, status := slotDone s.link.status, reply := slotDone s.link.reply } }.hand
      s.successNotice
  else s

/-- TRANSMIT_SUCCESS (R117, R118, R124). -/
def execTransmitSuccess (t : Time) (s : State) : Host.Outcome State Fault Refusal := .next ((s.stamp t).completeFrame)

/-- The line became IDLE at the very moment of the silence expiry, and the idle was taken first (R126, log entry 27). -/
def State.idleTakenAt (s : State) (t : Time) : Bool :=
  decide (s.link.line = .idle) && decide (s.link.idleSince = some t)

/-- The silence ends; a station that took an idle at this same moment waits for the next one (R126). -/
def State.endSilence (s : State) (t : Time) : State :=
  if decide (s.link.tx = .silent) && timerDue s.link.silence t then
    { s with link := { s.link with tx := .enabled, consecutive := 0, silence := none, awaitIdle := s.idleTakenAt t } }
  else s

/-- SILENCE_EXPIRY (R125, R126). -/
def execSilenceExpiry (t : Time) (s : State) : Host.Outcome State Fault Refusal := .next ((s.stamp t).endSilence t)

end Sys2Proof.Machine
end

