-- ==== Sys2Proof/Machine/Drive.lean ====
section
/-! DEFINITION. The pressure loop and valve driver (05_pressure_tracking_and_valve_drive.md): PHASE_HANDOFF,
CAP_STEP_HANDOFF, MODE_CHANGE_TO_DRIVER, CHAMBER_SAMPLE, SAG_ENTRY, TEST_STEP, OVER_CURRENT, CHECK_TIMER_EXPIRY. -/

namespace Sys2Proof.Machine

/-! ## Solenoids (R93, R107) -/

/-- A solenoid's drive set: a switch-on sets its check timer to 2000 µs and a switch-off to 10,000 µs; the timer of a
short-locked solenoid is stopped (R107). -/
def driveSolenoid (t : Time) (on : Bool) (x : Solenoid) : Solenoid :=
  if x.on = on then x
  else { x with on := on, timer := if x.shortLock then none else setTimer t (if on then 2000 else 10000) }

/-- The inlet is on for a pattern (R93); `live` is false for the solenoids that stay off, IN2 and OUT2 in JOINED. -/
def inletOn (live : Bool) (p : Pattern) (c : DriverChan) : Bool :=
  live && decide (p ≠ .pass) && !c.inlet.shortLock

/-- The outlet is on for a pattern: called for, the inlet on, no short lock (R93). -/
def outletOn (live : Bool) (p : Pattern) (c : DriverChan) : Bool :=
  inletOn live p c && decide (p = .exhaust) && !c.outlet.shortLock

/-- A pattern applied: the drives follow it in the same event (R93). -/
def applyPattern (live : Bool) (t : Time) (p : Pattern) (c : DriverChan) : DriverChan :=
  { c with pattern := p, inlet := driveSolenoid t (inletOn live p c) c.inlet
           outlet := driveSolenoid t (outletOn live p c) c.outlet }

/-! ## Which pattern applies (R94 to R97) -/

/-- The pattern that mode and phase name; none where tracking sets it (R94). -/
def namedPattern (m : Mode) (p : Phase) (test : Pattern) : Option Pattern :=
  if phaseDecides m then
    match p with
    | .inactive => some .pass
    | .follow => some .pass
    | .passive => some .pass
    | .hold => some .hold
    | .recover => some .hold
    | .release => some .exhaust
    | .capped => none
    | .reapply => none
    | .test => some test
  else some .pass

/-- The beginning of a tracking episode (R97). -/
def beginEpisode (c : DriverChan) : DriverChan :=
  { c with integrator := 0, windUp := false, dwellStart := none, errorRun := none, warning := false, spent := false,
           tracking := true }

/-- The end of a tracking episode (R97). -/
def endEpisode (c : DriverChan) : DriverChan :=
  { c with tracking := false, errorRun := none, warning := false }

/-- R94 applied at once: a named pattern ends tracking, and a tracked phase begins an episode unless one is in progress
(R95, R96). -/
def settlePattern (live : Bool) (m : Mode) (t : Time) (c : DriverChan) : DriverChan :=
  match namedPattern m c.phase c.testPattern with
  | some p => applyPattern live t p (endEpisode c)
  | none => if c.tracking then c else beginEpisode c

/-- The phase and cap a hand-off writes. The wound-up mark is cleared on INACTIVE and on TEST from INACTIVE (R97); the
test pattern returns to PASS when the test ends (R105). -/
def handedPhase (p : Phase) (cap : Nat) (c : DriverChan) : DriverChan :=
  { c with phase := p, cap := cap
           woundUp := if p = .inactive ∨ (p = .test ∧ c.phase = .inactive) then false else c.woundUp
           testPattern := if c.phase = .test ∧ p ≠ .test then .pass else c.testPattern }

/-- A phase handed to a channel (R95). The hand-off of the phase that stands only brings its cap. -/
def takePhase (live : Bool) (m : Mode) (t : Time) (p : Phase) (cap : Nat) (c : DriverChan) : DriverChan :=
  if p = c.phase then { c with cap := cap }
  else settlePattern live m t (handedPhase p cap (if isTracked c.phase then endEpisode c else c))

/-- The solenoids of a channel may be driven: those of channel 2 stay off in JOINED (R93). -/
def State.live (s : State) (c : Channel) : Bool := usesChannel s.arrangement c

/-- A channel of the driver replaced. -/
def State.setDriverChan (s : State) (c : Channel) (d : DriverChan) : State :=
  { s with driver := { s.driver with chans := chanSet s.driver.chans c d } }

/-- A channel of the driver. -/
def State.driverChan (s : State) (c : Channel) : DriverChan := chanGet s.driver.chans c

/-- A phase hand-off taken by the driver (R95). -/
def State.drivePhase (s : State) (c : Channel) (p : Phase) (cap : Nat) : State :=
  if s.begun then s.setDriverChan c (takePhase (s.live c) s.driver.mode s.now p cap (s.driverChan c)) else s

/-- PHASE_HANDOFF (R93 to R97, R105), taken in its turn (R86). -/
def execPhaseHandoff (c : Channel) (p : Phase) (cap : Nat) (s : State) : Host.Outcome State Fault Refusal :=
  .next (s.takeInTurn (.phaseHandoff c p cap) fun x => x.drivePhase c p cap)

/-- CAP_STEP_HANDOFF, taken in its turn: the new cap is used from the next tracking sample (R86, R95). -/
def execCapStepHandoff (c : Channel) (cap : Nat) (s : State) : Host.Outcome State Fault Refusal :=
  .next (s.takeInTurn (.capStepHandoff c cap) fun x => x.setDriverChan c { x.driverChan c with cap := cap })

/-- A mode change taken by the driver: both channels settled anew (R96). -/
def State.driveMode (s : State) (m : Mode) : State :=
  { s with driver := { s.driver with
      mode := m
      chans := ⟨settlePattern (s.live .ch1) m s.now s.driver.chans.ch1,
        settlePattern (s.live .ch2) m s.now s.driver.chans.ch2⟩ } }

/-- MODE_CHANGE_TO_DRIVER (R94, R96, R97), taken in its turn (R147). -/
def execModeChangeToDriver (m : Mode) (s : State) : Host.Outcome State Fault Refusal :=
  .next (s.takeInTurn (.modeChangeToDriver m) fun x => x.driveMode m)

/-! ## The tracking sample (R98 to R104) -/

/-- The integrator's upper bound (R99). -/
def integratorMax : Int := 2147483647

/-- The integrator's lower bound (R99). -/
def integratorMin : Int := -2147483648

/-- The integrator takes Ki × e, saturating; a bound reached sets the wind-up flag and the wound-up mark (R99). -/
def integrate (ki : Nat) (e : Int) (c : DriverChan) : DriverChan :=
  let sum := c.integrator + (ki : Int) * e
  if integratorMax < sum then { c with integrator := integratorMax, windUp := true, woundUp := true }
  else if sum < integratorMin then { c with integrator := integratorMin, windUp := true, woundUp := true }
  else { c with integrator := sum }

/-- The control value u = Kp × e + floor(I / 256) (R100). -/
def controlValue (kp : Nat) (e integrator : Int) : Int := (kp : Int) * e + integrator / 256

/-- The pattern chosen from u; no EXHAUST in SAG or UNDER (R100, R102). -/
def choosePattern (uOn : Nat) (low : Bool) (u : Int) : Pattern :=
  if (uOn : Int) ≤ u then .pass
  else if u ≤ -(uOn : Int) then (if low then .hold else .exhaust)
  else .hold

/-- The choice applied under the dwell (R101). -/
def applyChoice (live : Bool) (t : Time) (p : Pattern) (c : DriverChan) : DriverChan :=
  if p = c.pattern then c
  else if c.dwellStart.isNone || aged c.dwellStart t 3000 then
    { applyPattern live t p c with dwellStart := some t }
  else c

/-- The error run and the tracking warning (R103). -/
def superviseRun (t : Time) (e : Int) (c : DriverChan) : DriverChan :=
  let run := runWhile (decide (300 < e.natAbs)) c.errorRun t
  { c with errorRun := run, warning := c.warning || aged run t 300000 }

/-- TRACKING is due at this sample (R104). -/
def trackingDue (t : Time) (c : DriverChan) : Bool := aged c.errorRun t 1000000 && !c.spent

/-- A tracking sample with a good chamber sensor, up to TRACKING (R98 to R103). -/
def trackSample (q : Params) (live low : Bool) (t : Time) (pc pd : Nat) (c : DriverChan) : DriverChan :=
  let e : Int := (min c.cap pd : Nat) - (pc : Int)
  let c1 := integrate q.ki e c
  superviseRun t e (applyChoice live t (choosePattern q.uOn low (controlValue q.kp e c1.integrator)) c1)

/-- A chamber sample taken by the driver (R98): only a tracking channel with a good sensor makes a decision. -/
def State.driveSample (s : State) (c : Channel) (pc : Nat) (sensor : SensorState) (pd : Nat) : State :=
  if (s.driverChan c).tracking && decide (sensor = .good) then
    let d := trackSample s.params (s.live c) (supplyLow s.supply.state) s.now pc pd (s.driverChan c)
    if trackingDue s.now d then
      (s.setDriverChan c { d with spent := true }).hand [.faultNotice (.channelFault .tracking c false)]
    else s.setDriverChan c d
  else s

/-- CHAMBER_SAMPLE (R98 to R104). -/
def execChamberSample (c : Channel) (pc : Nat) (sensor : SensorState) (pd : Nat) (s : State) :
    Host.Outcome State Fault Refusal :=
  .next ((s.take (.chamberSample c pc sensor pd)).driveSample c pc sensor pd)

/-- A tracking channel's EXHAUST becomes HOLD at the entry to SAG (R102). -/
def sagChannel (live : Bool) (t : Time) (c : DriverChan) : DriverChan :=
  if c.tracking && decide (c.pattern = .exhaust) then { applyPattern live t .hold c with dwellStart := some t } else c

/-- The entry to SAG taken by the driver (R102). -/
def State.driveSag (s : State) : State :=
  { s with driver := { s.driver with
      chans := ⟨sagChannel (s.live .ch1) s.now s.driver.chans.ch1, sagChannel (s.live .ch2) s.now s.driver.chans.ch2⟩ } }

/-- SAG_ENTRY (R102). -/
def execSagEntry (s : State) : Host.Outcome State Fault Refusal := .next ((s.take .sagEntry).driveSag)

/-- A valve-test step taken by the driver: applied at once while the phase is TEST, kept otherwise (R105). DESIGN CHOICE, log
entry 30: R105 names the step handed before the phase becomes TEST; a step that comes after the phase has left TEST is kept
in the same way, and the next test begins with it. -/
def State.driveTest (s : State) (c : Channel) (p : Pattern) : State :=
  let d := { s.driverChan c with testPattern := p }
  s.setDriverChan c (if d.phase = .test then settlePattern (s.live c) s.driver.mode s.now d else d)

/-- TEST_STEP (R105). -/
def execTestStep (c : Channel) (p : Pattern) (s : State) : Host.Outcome State Fault Refusal :=
  .next ((s.take (.testStep c p)).driveTest c p)

/-! ## Solenoid diagnostics (R106 to R110) -/

/-- A solenoid of a channel. -/
def solenoid (c : DriverChan) (v : Valve) : Solenoid :=
  match v with
  | .inlet => c.inlet
  | .outlet => c.outlet

/-- A solenoid of a channel replaced. -/
def setSolenoid (c : DriverChan) (v : Valve) (x : Solenoid) : DriverChan :=
  match v with
  | .inlet => { c with inlet := x }
  | .outlet => { c with outlet := x }

/-- A solenoid found shorted: off, short lock set, check timer stopped (R106). -/
def shortSolenoid (x : Solenoid) : Solenoid := { x with on := false, shortLock := true, timer := none }

/-- A short found on a channel's solenoid; an inlet takes the outlet off with it (R106, R93). -/
def shortChannel (t : Time) (v : Valve) (c : DriverChan) : DriverChan :=
  match v with
  | .inlet => { c with inlet := shortSolenoid c.inlet, outlet := driveSolenoid t false c.outlet }
  | .outlet => { c with outlet := shortSolenoid c.outlet }

/-- A finding goes to the fault unit, marked for recording when the phase as handed is PASSIVE (R110). -/
def valveNotice (cause : ChannelCause) (c : Channel) (d : DriverChan) : Instr :=
  .faultNotice (.channelFault cause c (decide (d.phase = .passive)))

/-- An over-current taken; a solenoid that is off draws no current and cannot be found shorted (R106). -/
def State.takeOverCurrent (s : State) (t : Time) (c : Channel) (v : Valve) : State :=
  if (solenoid (s.driverChan c) v).on then
    (s.setDriverChan c (shortChannel t v (s.driverChan c))).hand [valveNotice .valveShort c (s.driverChan c)]
  else s

/-- OVER_CURRENT (R106, R110). -/
def execOverCurrent (t : Time) (c : Channel) (v : Valve) (s : State) : Host.Outcome State Fault Refusal :=
  .next ((s.stamp t).takeOverCurrent t c v)

/-- An open-load check fails: on, below 150 mA; off, no load found (R107). -/
def checkFails (on : Bool) (milliamps : Nat) (loadFound : Bool) : Bool :=
  if on then decide (milliamps < 150) else !loadFound

/-- The open count after a check: it runs across both kinds of check and stays at 3 (R108). -/
def countOpen (fails : Bool) (n : Nat) : Nat := if 3 ≤ n then 3 else if fails then n + 1 else 0

/-- A solenoid after a check, its timer set for the next (R107, R108). -/
def checkedSolenoid (t : Time) (fails : Bool) (x : Solenoid) : Solenoid :=
  { x with openCount := countOpen fails x.openCount, timer := setTimer t 10000
           openMark := x.openMark || decide (3 ≤ countOpen fails x.openCount) }

/-- An open-load check made at the expiry of a solenoid's check timer (R107, R108); VALVE_OPEN when the count reaches
3. -/
def State.takeCheck (s : State) (t : Time) (c : Channel) (v : Valve) (milliamps : Nat) (loadFound : Bool) : State :=
  let x := solenoid (s.driverChan c) v
  if timerDue x.timer t then
    let x' := checkedSolenoid t (checkFails x.on milliamps loadFound) x
    let s' := s.setDriverChan c (setSolenoid (s.driverChan c) v x')
    if !x.openMark && x'.openMark then s'.hand [valveNotice .valveOpen c (s.driverChan c)] else s'
  else s

/-- CHECK_TIMER_EXPIRY (R107 to R110). -/
def execCheckTimerExpiry (t : Time) (c : Channel) (v : Valve) (milliamps : Nat) (loadFound : Bool) (s : State) :
    Host.Outcome State Fault Refusal :=
  .next ((s.stamp t).takeCheck t c v milliamps loadFound)

/-- A solenoid's check timer at the start of the driver, as for a solenoid switched off; that of a short-locked one stays
stopped (R107, R112). -/
def startCheck (t : Time) (x : Solenoid) : Solenoid :=
  { x with timer := if x.shortLock then none else setTimer t 10000 }

/-- The check timers at the start of the driver, those of channel 2 stopped in JOINED (R112, R184). -/
def startChecks (live : Bool) (t : Time) (c : DriverChan) : DriverChan :=
  if live then { c with inlet := startCheck t c.inlet, outlet := startCheck t c.outlet } else c

end Sys2Proof.Machine
end

