-- ==== Sys2Proof/Machine/FaultUnit.lean ====
section
/-! DEFINITION. The fault unit (08_faults_and_module_state.md): FAULT_NOTICE, CAUSE_CLEARED, SUPPLY_SAG_NOTICE, the
handed mode changes, END_OF_STARTING, SERVICE_CLEAR, MILLISECOND_COUNT_TICK. -/

namespace Sys2Proof.Machine

/-! ## Memory of faults (R160 to R165) -/

/-- Code n of the cause-seen set, bit n - 1 (R163). -/
def causeBit (c : Cause) : BitVec 16 := BitVec.ofNat 16 (2 ^ (causeCode c - 1))

/-- A cause enters the cause-seen set (R163). -/
def State.seeCause (s : State) (c : Cause) : State :=
  { s with fault := { s.fault with seen := s.fault.seen ||| causeBit c } }

/-- The record with its latch flag set (R162). -/
def latchRecord (r : FaultRecord) : FaultRecord := { r with latch := true }

/-- The mode becomes LATCHED: a captured record gains its latch flag (R162). -/
def State.latchFlag (s : State) : State :=
  if s.fault.mode = .latched then { s with fault := { s.fault with record := s.fault.record.map latchRecord } } else s

/-- The record a notice captures: mode and phase as the notice found them (R160, R161). -/
def captureOf (found : State) (n : Notice) (latch : Bool) : FaultRecord :=
  let channel := match n with | .channelFault _ c _ => some c | _ => none
  { cause := noticeCause n, channel := channel, phase := channel.map fun c => (chanGet found.slip c).phase
    modeBefore := found.fault.mode, time := found.fault.millis, vref := found.view.vref, latch := latch }

/-- An observation captures no record (R161). -/
def captures (n : Notice) : Bool :=
  match n with
  | .observation _ => false
  | .channelFault _ _ _ => true
  | .configBad => true
  | .positionClash => true
  | .reversible _ => true

/-- The capture at the end of a notice's event: the empty record takes the notice (R161), and the latch flag follows the
mode after (R161, R162). -/
def State.capture (s found : State) (n : Notice) : State :=
  if found.fault.record.isNone && captures n then
    { s with fault := { s.fault with record := some (captureOf found n (decide (s.fault.mode = .latched))) } }
  else s.latchFlag

/-! ## Alerts of the fault unit (R155) -/

/-- A module alert with its value (R155). -/
def moduleAlert (k : AlertKind) (value : Nat) : Instr := .alertHanded k none value

/-! ## The ladder (R149 to R154) -/

/-- The mode becomes PASSIVE with MODULE_PASSIVE (R152, R151). -/
def State.toPassive (s : State) (code : Nat) : State := (s.giveUp .passive).hand [moduleAlert .modulePassive code]

/-- The mode becomes LATCHED with MODULE_LATCHED (R152, R151). -/
def State.toLatched (s : State) (code : Nat) : State := (s.giveUp .latched).hand [moduleAlert .moduleLatched code]

/-- A module fault other than POSITION_CLASH (R152). -/
def State.moduleFault (s : State) (code : Nat) : State :=
  match s.fault.mode with
  | .starting => s.toPassive code
  | .active => s.toPassive code
  | .quiet => s.toPassive code
  | .service => s.toPassive code
  | .held => s.toPassive code
  | .passive => s.toLatched code
  | .latched => s

/-- What a channel fault hands on as it forces its channel: CHANNEL_PASSIVE, and the test-abort notice for a channel in
TEST (R147, R149, R155). -/
def faultHandoffs (cause : ChannelCause) (c : Channel) (phase : Phase) : List Instr :=
  [.alertHanded .channelPassive (some c) (channelCauseCode cause)]
    ++ (if phase = .test then [.abortEvent .channelFault] else [])

/-- The channel is forced with its CHANNEL_PASSIVE alert, and with the test-abort notice when it stands in TEST, in HELD
too; a channel that is PASSIVE already is left as it is (R147, R149, R151, R155; log entries 9 and 19). -/
def State.forceWithAlert (s : State) (cause : ChannelCause) (c : Channel) : State :=
  if (chanGet s.slip c).phase = .passive then s
  else (s.force c).hand (faultHandoffs cause c (chanGet s.slip c).phase)

/-- ALL_CHANNELS raised and taken at once when no usable channel remains (R150). -/
def State.judgeUsable (s : State) : State :=
  if s.anyUsable then s else (s.seeCause .allChannels).moduleFault 13

/-- A channel fault taken in STARTING, ACTIVE, QUIET or SERVICE (R149, R150). -/
def State.channelFault (s : State) (cause : ChannelCause) (c : Channel) : State :=
  if (chanGet s.slip c).phase = .passive then s else (s.forceWithAlert cause c).judgeUsable

/-- A channel fault on the ladder (R149, R151). -/
def State.channelLadder (s : State) (cause : ChannelCause) (c : Channel) : State :=
  match s.fault.mode with
  | .starting => s.channelFault cause c
  | .active => s.channelFault cause c
  | .quiet => s.channelFault cause c
  | .service => s.channelFault cause c
  | .held => ((s.forceWithAlert cause c).seeCause .promoted).toPassive 14
  | .passive => (s.seeCause .promoted).toLatched 14
  | .latched => s

/-- POSITION_CLASH in any mode (R153). -/
def State.positionClash (s : State) : State :=
  let s' := s.hand [moduleAlert .positionClash 12]
  if s.fault.mode = .latched then s' else s'.toLatched 12

/-- A reversible cause enters the held-cause set (R157). -/
def addHeld (c : Reversible) (x : HeldSet) : HeldSet :=
  match c with
  | .demandLost => { x with demandLost := true }
  | .supplyUnder => { x with supplyUnder := true }

/-- A reversible cause leaves the held-cause set (R158). -/
def dropHeld (c : Reversible) (x : HeldSet) : HeldSet :=
  match c with
  | .demandLost => { x with demandLost := false }
  | .supplyUnder => { x with supplyUnder := false }

/-- The held-cause set is empty. -/
def HeldSet.isEmpty (x : HeldSet) : Bool := !x.demandLost && !x.supplyUnder

/-- The lowest code in the held-cause set (R159); 0 for the empty set, where no rule reads it. -/
def HeldSet.lowestCode (x : HeldSet) : Nat := if x.demandLost then 9 else if x.supplyUnder then 10 else 0

/-- The held-cause set replaced. -/
def State.setHeld (s : State) (x : HeldSet) : State := { s with fault := { s.fault with held := x } }

/-- The mode becomes HELD with MODULE_HELD (R157, R159). -/
def State.toHeld (s : State) (code : Nat) : State := (s.setMode .held).hand [moduleAlert .moduleHeld code]

/-- A reversible cause (R157). -/
def State.reversibleCause (s : State) (c : Reversible) : State :=
  let s' := s.setHeld (addHeld c s.fault.held)
  match s.fault.mode with
  | .active => s'.toHeld (reversibleCode c)
  | .quiet => s'.toHeld (reversibleCode c)
  | .service => s'.toHeld (reversibleCode c)
  | .starting => s'
  | .held => s'
  | .passive => s'
  | .latched => s'

/-- A notice taken by its class (R148). -/
def State.ladder (s : State) (n : Notice) : State :=
  match n with
  | .channelFault cause c marked => if marked then s else s.channelLadder cause c
  | .configBad => s.moduleFault 11
  | .positionClash => s.positionClash
  | .reversible c => s.reversibleCause c
  | .observation _ => s

/-- A notice taken whole: the cause-seen set, the class, the record (R148, R161 to R163). -/
def State.takeNotice (s : State) (n : Notice) : State := ((s.seeCause (noticeCause n)).ladder n).capture s n

/-- FAULT_NOTICE (R148 to R157, R160 to R163). -/
def execFaultNotice (n : Notice) (s : State) : Host.Outcome State Fault Refusal :=
  .next (if s.begun then (s.take (.faultNotice n)).takeNotice n else s.take (.faultNotice n))

/-! ## The other events of the fault unit -/

/-- A reversible cause clears (R158): a cause not in the set changes nothing; when the set becomes empty in HELD the mode
returns to ACTIVE with MODULE_RECOVERED. -/
def State.clearCause (s : State) (c : Reversible) : State :=
  let s' := s.setHeld (dropHeld c s.fault.held)
  if !s.fault.held.isEmpty && (dropHeld c s.fault.held).isEmpty && decide (s.fault.mode = .held) then
    (s'.setMode .active).hand [moduleAlert .moduleRecovered 0]
  else s'

/-- CAUSE_CLEARED (R158). -/
def execCauseCleared (c : Reversible) (s : State) : Host.Outcome State Fault Refusal :=
  .next (if s.begun then (s.take (.causeCleared c)).clearCause c else s.take (.causeCleared c))

/-- The supply event flag set (R164). -/
def State.setSupplyEvent (s : State) : State := { s with fault := { s.fault with supplyEvent := true } }

/-- SUPPLY_SAG_NOTICE (R164), even before the straps have been sampled (R172). -/
def execSupplySagNotice (s : State) : Host.Outcome State Fault Refusal :=
  .next ((s.take .supplySagNotice).setSupplyEvent)

/-- The quiet control is told that its change was not taken (R146, R174). -/
def State.refuseQuiet (s : State) : State := { s with standstill := none }

/-- QUIET_ENTRY: ACTIVE to QUIET, accepted only from ACTIVE (R146). -/
def execQuietEntry (s : State) : Host.Outcome State Fault Refusal :=
  .next (if s.fault.mode = .active then (s.take .quietEntry).setMode .quiet else (s.take .quietEntry).refuseQuiet)

/-- QUIET_EXIT: QUIET to ACTIVE, accepted only from QUIET (R146). -/
def execQuietExit (s : State) : Host.Outcome State Fault Refusal :=
  .next (if s.fault.mode = .quiet then (s.take .quietExit).setMode .active else (s.take .quietExit).refuseQuiet)

/-- SERVICE_ENTRY: accepted from ACTIVE or QUIET, and the responder is answered (R146, R194). -/
def execServiceEntry (s : State) : Host.Outcome State Fault Refusal :=
  .next (if s.fault.mode = .active ∨ s.fault.mode = .quiet then
      ((s.take .serviceEntry).setMode .service).hand [.serviceAnswer true]
    else (s.take .serviceEntry).hand [.serviceAnswer false])

/-- SERVICE_EXIT: SERVICE to ACTIVE, accepted only from SERVICE (R146). -/
def execServiceExit (s : State) : Host.Outcome State Fault Refusal :=
  .next (if s.fault.mode = .service then (s.take .serviceExit).setMode .active else s.take .serviceExit)

/-- The fault memory emptied (R165). -/
def State.clearMemory (s : State) : State := { s with fault := emptyMemory s.fault }

/-- SERVICE_CLEAR (R165). -/
def execServiceClear (s : State) : Host.Outcome State Fault Refusal := .next ((s.take .serviceClear).clearMemory)

/-- A record is captured and carries its latch flag (R159). -/
def recordLatched (r : Option FaultRecord) : Bool :=
  match r with
  | some x => x.latch
  | none => false

/-- The cause code of a captured record (R159); 0 for the empty one, where no rule reads it. -/
def recordCode (r : Option FaultRecord) : Nat :=
  match r with
  | some x => causeCode x.cause
  | none => 0

/-- The working mode at the end of STARTING, by the mode it finds (R159). -/
def State.settleWorkingMode (s : State) : State :=
  match s.fault.mode with
  | .starting =>
    if recordLatched s.fault.record then s.toLatched (recordCode s.fault.record)
    else if s.fault.held.isEmpty then s.setMode .active
    else s.toHeld s.fault.held.lowestCode
  | .passive => if recordLatched s.fault.record then s.toLatched (recordCode s.fault.record) else s
  | .latched => s
  | .active => s
  | .quiet => s
  | .service => s
  | .held => s

/-- The view unit's missing timer starts at the end-of-STARTING notice (R49, R159). -/
def State.startMissingTimer (s : State) : State :=
  { s with view := { s.view with missing := .running { setAt := s.now, period := 1000000 } } }

/-- END_OF_STARTING (R159, R146, R49). -/
def execEndOfStarting (s : State) : Host.Outcome State Fault Refusal :=
  .next (if s.begun then ((s.take .endOfStarting).settleWorkingMode).startMissingTimer else s.take .endOfStarting)

/-- The millisecond count rises by 1 and stands at 4,294,967,295 (R160). -/
def State.tickMillis (s : State) (t : Time) : State :=
  if timerDue s.fault.milliTimer t then
    { s with fault := { s.fault with
        millis := min 4294967295 (s.fault.millis + 1), milliTimer := nextPeriod s.fault.milliTimer } }
  else s

/-- MILLISECOND_COUNT_TICK (R160). -/
def execMillisecondCountTick (t : Time) (s : State) : Host.Outcome State Fault Refusal :=
  .next ((s.stamp t).tickMillis t)

end Sys2Proof.Machine
end

