-- ==== Sys2Proof/Machine/Pressure.lean ====
section
/-! DEFINITION. The pressure unit (02_brake_pressure_and_demand_sensing.md): PRESSURE_SAMPLE and SAMPLE_PERIOD_CHANGE. -/

namespace Sys2Proof.Machine

/-- A code in mbar: floor((c - offset) × gain / 256), 0 below the offset, at most 15000 (R20). -/
def convertCode (offset gain code : Nat) : Nat := min 15000 ((code - offset) * gain / 256)

/-- A code below 205 or above 3891 is out of band (R21). -/
def outOfBand (code : Nat) : Bool := decide (code < 205) || decide (3891 < code)

/-- The band check and conversion of one input (R21). -/
def sampleSensor (offset gain code : Nat) (x : Sensor) : Sensor :=
  match x.state with
  | .failed => x
  | .good =>
    if outOfBand code then
      if 5 ≤ x.outOfBand + 1 then { x with outOfBand := 5, state := .failed }
      else { x with outOfBand := x.outOfBand + 1 }
    else { x with reading := convertCode offset gain code, outOfBand := 0 }

/-- The sensor became FAILED at this sample (R22, R23). -/
def failedNow (before after : Sensor) : Bool := decide (before.state = .good) && decide (after.state = .failed)

/-- The demands of FRESH peer entries, in mbar (R26). -/
def State.freshDemands (s : State) : List Nat :=
  positions.filterMap fun p =>
    if (quadGet s.view.peers p).state = .fresh then (quadGet s.view.peers p).demand.map (100 * ·) else none

/-- The highest of some values; absent when there is none. -/
def highest (xs : List Nat) : Option Nat :=
  match xs with
  | [] => none
  | x :: rest => some (rest.foldl max x)

/-- Pd and the demand-lost mark at a sample, the demand sensor as checked (R25, R26). -/
def settlePd (demand : Sensor) (substitute : Option Nat) (mark : Bool) : Nat × Bool :=
  match demand.state with
  | .good => (demand.reading, mark)
  | .failed => (substitute.getD 0, substitute.isNone)

/-- The economy evaluation (R30, R31): the low run, the high run and the flag, the reservoir sensor as checked. -/
def settleEconomy (pEcon : Nat) (res : Sensor) (p : PressureUnit) (t : Time) :
    Option Time × Option Time × Bool :=
  match res.state with
  | .failed => (none, none, false)
  | .good =>
    let low := runWhile (decide (res.reading < pEcon)) p.lowRun t
    let high := runWhile (decide (pEcon + 500 ≤ res.reading)) p.highRun t
    (low, high, economyAfter p.economy low high t)

/-- The chamber 2 sensor at a sample: not sampled in JOINED (R19). -/
def sampleChamber2 (a : Arrangement) (offset gain code : Nat) (x : Sensor) : Sensor :=
  match a with
  | .joined => x
  | .split => sampleSensor offset gain code x

/-- The pressure unit after a sample (R19, steps 1 to 3). -/
def State.sampledPressure (s : State) (t : Time) (codes : PressureCodes) : PressureUnit :=
  let q := s.params
  let p := s.pressure
  let demand := sampleSensor q.offsets.demand q.gains.demand codes.demand.toNat p.demand
  let c1 := sampleSensor q.offsets.chamber1 q.gains.chamber1 codes.chamber1.toNat p.chambers.ch1
  let c2 := sampleChamber2 s.arrangement q.offsets.chamber2 q.gains.chamber2 codes.chamber2.toNat p.chambers.ch2
  let res := sampleSensor q.offsets.reservoir q.gains.reservoir codes.reservoir.toNat p.reservoir
  let pd := settlePd demand (highest s.freshDemands) p.demandLost
  let eco := settleEconomy q.pEcon res p t
  { demand := demand, chambers := ⟨c1, c2⟩, reservoir := res, pd := pd.1, demandLost := pd.2
    braking := brakingAfter q.pOn q.pOff p.braking pd.1
    economy := eco.2.2, lowRun := eco.1, highRun := eco.2.1
    timer := nextPeriod p.timer }

/-- The chamber sample of a channel (R19, step 4; R98). -/
def chamberSampleOf (p : PressureUnit) (c : Channel) : Instr :=
  .chamberSample c (chanGet p.chambers c).reading (chanGet p.chambers c).state p.pd

/-- The notices of a pressure sample, from the unit before and after it: CHAMBER_SENSOR (R22), AUX_SENSOR (R23),
DEMAND_LOST and its clearing (R26), and the braking rise (R29). -/
def pressureNotices (p p' : PressureUnit) : List Instr :=
  (if failedNow p.chambers.ch1 p'.chambers.ch1 then [.faultNotice (.channelFault .chamberSensor .ch1 false)] else [])
    ++ (if failedNow p.chambers.ch2 p'.chambers.ch2 then [.faultNotice (.channelFault .chamberSensor .ch2 false)] else [])
    ++ (if failedNow p.demand p'.demand then [.faultNotice (.observation .auxSensor)] else [])
    ++ (if failedNow p.reservoir p'.reservoir then [.faultNotice (.observation .auxSensor)] else [])
    ++ (if !p.demandLost && p'.demandLost then [.faultNotice (.reversible .demandLost)] else [])
    ++ (if p.demandLost && !p'.demandLost then [.causeCleared .demandLost] else [])
    ++ (if !p.braking && p'.braking then [.wakeEvent .brakingRise, .abortEvent .brakingRise] else [])

/-- A pressure sample (R19). -/
def State.takePressureSample (s : State) (t : Time) (codes : PressureCodes) : State :=
  if s.unitsOn && timerDue s.pressure.timer t then
    { s with pressure := s.sampledPressure t codes }.hand
      ([chamberSampleOf (s.sampledPressure t codes) .ch1, chamberSampleOf (s.sampledPressure t codes) .ch2]
        ++ pressureNotices s.pressure (s.sampledPressure t codes))
  else s

/-- PRESSURE_SAMPLE (R19 to R34). -/
def execPressureSample (t : Time) (codes : PressureCodes) (s : State) : Host.Outcome State Fault Refusal :=
  .next ((s.stamp t).takePressureSample t codes)

/-- The sample timer restarted at a mode change into or out of QUIET (R32). -/
def State.changeSamplePeriod (s : State) (intoQuiet : Bool) : State :=
  if s.unitsOn then
    { s with pressure := { s.pressure with timer := setTimer s.now (if intoQuiet then 50000 else 1000) } }
  else s

/-- SAMPLE_PERIOD_CHANGE (R32), taken in its turn (R147). -/
def execSamplePeriodChange (intoQuiet : Bool) (s : State) : Host.Outcome State Fault Refusal :=
  .next (s.takeInTurn (.samplePeriodChange intoQuiet) fun x => x.changeSamplePeriod intoQuiet)

end Sys2Proof.Machine
end

