-- ==== Sys2Proof/Machine/Slip.lean ====
section
/-! DEFINITION. The slip controller (04_slip_control.md): REFERENCE_UPDATE. -/

namespace Sys2Proof.Machine

/-! ## Inputs of a channel -/

/-- What decides the yaw condition for a channel (R83, R84). -/
inductive YawCase where
  | none
  | ownSide (partnerLock : Nat)
  | peers
  deriving DecidableEq, Repr

/-- What the slip controller works one channel from at an update (R64, R66 to R69, R83). `judged` says the station judges
the yaw condition: station 0 in SPLIT. -/
structure ChannelInput where
  inputFailed : Bool
  vw : Nat
  aw : Int
  vref : Nat
  pc : Nat
  pd : Nat
  braking : Bool
  economy : Bool
  judged : Bool
  yaw : YawCase
  deriving DecidableEq, Repr

/-- The wheel a channel works from: its own in SPLIT (R67), the slower in JOINED, LEFT when equal (R68). -/
def wheelOf (a : Arrangement) (c : Channel) (x : Sides Sample) : Sample :=
  match a, c with
  | .split, .ch1 => x.left
  | .split, .ch2 => x.right
  | .joined, _ => if x.right.speed < x.left.speed then x.right else x.left

/-- A wheel input of the channel is FAILED in the update (R66). -/
def wheelFailed (a : Arrangement) (c : Channel) (x : Sides Sample) : Bool :=
  match a, c with
  | .split, .ch1 => decide (x.left.state = .failed)
  | .split, .ch2 => decide (x.right.state = .failed)
  | .joined, _ => decide (x.left.state = .failed) || decide (x.right.state = .failed)

/-- Some lane of a FRESH peer entry on a side has phase code RELEASE in the peer table (R83 (b)). -/
def State.freshRelease (s : State) (i : Side) : Bool :=
  positions.any fun p =>
    decide (p ≠ s.position) && decide ((quadGet s.view.peers p).state = .fresh)
      && decide ((sideGet (quadGet s.view.peers p).lanes i).code = .release)

/-- Some lane of a FRESH peer entry on a side is in the active mask of the update (R83 (b)). -/
def State.freshMasked (s : State) (i : Side) (mask : BitVec 8) : Bool :=
  positions.any fun p =>
    decide (p ≠ s.position) && decide ((quadGet s.view.peers p).state = .fresh) && inMask mask (laneNumber p i)

/-- The yaw condition is judged at station 0 in SPLIT and nowhere else (R83). -/
def State.yawJudged (s : State) : Bool := decide (s.position = 0) && decide (s.arrangement = .split)

/-- The yaw condition for channel y, the other channel's state as it stood when the update was taken (R83). -/
def State.yawCase (s : State) (y : Channel) (mask : BitVec 8) : YawCase :=
  let x := chanGet s.slip (otherChannel y)
  if !s.yawJudged then .none
  else if isAntiLock x.phase then .ownSide x.pLock
  else if s.freshRelease (channelSide (otherChannel y)) && !s.freshMasked (channelSide y) mask then .peers
  else .none

/-- The inputs of a channel at an update (R64). -/
def State.channelInput (s : State) (c : Channel) (u : RefUpdate) : ChannelInput :=
  let w := wheelOf s.arrangement c u.samples
  { inputFailed := wheelFailed s.arrangement c u.samples, vw := w.speed, aw := w.accel, vref := u.vref
    pc := (chanGet s.pressure.chambers c).reading, pd := s.pressure.pd, braking := s.pressure.braking
    economy := s.pressure.economy, judged := s.yawJudged, yaw := s.yawCase c u.mask }

/-! ## Slip and thresholds (R69) -/

/-- The slip s, signed (R69). -/
def ChannelInput.slip (x : ChannelInput) : Int := (x.vref : Int) - (x.vw : Int)

/-- The slip threshold (R69). -/
def slipThreshold (q : Params) (vref : Nat) : Nat := max q.slipAbs (vref * q.slipRel / 256)

/-- The release threshold, raised under economy (R69, R91). -/
def releaseThreshold (q : Params) (vref : Nat) (economy : Bool) : Nat :=
  slipThreshold q vref + (if economy then q.slipAbs else 0)

/-- The wheel slows at least as fast as A1 (R74, R79, R81). -/
def locking (q : Params) (x : ChannelInput) : Bool := decide (x.aw ≤ -(q.a1 : Int))

/-! ## Outcome of a channel's evaluation -/

/-- A channel after an update: its record, the alert it sends with its value, and whether RELEASE_OVERRUN is raised. -/
structure ChannelOutcome where
  record : ChannelRec
  alert : Option (AlertKind × Nat)
  overrun : Bool
  deriving DecidableEq, Repr

/-- A change without an alert. -/
def silently (r : ChannelRec) : ChannelOutcome := { record := r, alert := none, overrun := false }

/-- A change with CYCLE_END (R87). -/
def withCycleEnd (r : ChannelRec) : ChannelOutcome := { record := r, alert := some (.cycleEnd, 0), overrun := false }

/-- Step 2 of R70: the fault-wait mark is set, and a RELEASE becomes HOLD (R66). -/
def awaitFault (r : ChannelRec) : ChannelRec :=
  { r with faultWait := true, phase := if r.phase = .release then .hold else r.phase }

/-- Step 3 of R70: INACTIVE (R71). -/
def endBraking (r : ChannelRec) : ChannelRec :=
  { r with phase := .inactive, falseOnset := 0, releaseCount := 0, stepCount := 0, strong := false, yawSpent := false }

/-- Step 4 of R70: FOLLOW below v_min; a channel already in FOLLOW is unchanged (R72). -/
def handBack (r : ChannelRec) : ChannelOutcome :=
  let r' := { r with phase := .follow, falseOnset := 0, releaseCount := 0, stepCount := 0, strong := false }
  if r.phase = .follow then silently r
  else if isAntiLock r.phase then withCycleEnd r'
  else silently r'

/-- INACTIVE with the braking flag set becomes FOLLOW (R73). -/
def beginFollow (r : ChannelRec) : ChannelRec :=
  { r with phase := .follow, falseOnset := 0, releaseCount := 0, stepCount := 0, strong := false }

/-- Lock onset from FOLLOW or CAPPED (R74). -/
def lockOnset (x : ChannelInput) (r : ChannelRec) : ChannelOutcome :=
  { record := { r with phase := .hold, pLock := x.pc, falseOnset := 0 }, alert := some (.lockOnset, x.pc),
    overrun := false }

/-- The onset test of R74. -/
def onsetSeen (q : Params) (x : ChannelInput) : Bool := decide (q.vEntry ≤ x.vref) && locking q x

/-- Entry to RELEASE (R75, R79). -/
def enterRelease (r : ChannelRec) : ChannelRec := { r with phase := .release, releaseCount := 0, strong := false }

/-- Entry to CAPPED with the cap clamped to Pd (R84). -/
def enterCapped (x : ChannelInput) (cap : Nat) (r : ChannelRec) : ChannelRec :=
  { r with phase := .capped, cap := min cap x.pd }

/-- FOLLOW (R74, R84). -/
def evalFollow (q : Params) (x : ChannelInput) (r : ChannelRec) : ChannelOutcome :=
  if onsetSeen q x then lockOnset x r
  else if !x.judged then silently r
  else
    match x.yaw with
    | .none => silently { r with yawSpent := false }
    | .ownSide lock => if r.yawSpent then silently r else silently (enterCapped x (lock + q.yawMargin) r)
    | .peers => if r.yawSpent then silently r else silently (enterCapped x (x.pc + q.yawMargin) r)

/-- CAPPED (R74, R85). -/
def evalCapped (q : Params) (x : ChannelInput) (r : ChannelRec) : ChannelOutcome :=
  if onsetSeen q x then lockOnset x r
  else if x.yaw = .none then silently { r with phase := .follow, yawSpent := false }
  else if x.pd ≤ r.cap + q.yawStep then
    silently { r with phase := .follow, cap := r.cap + q.yawStep, yawSpent := true }
  else silently { r with cap := r.cap + q.yawStep }

/-- The false-onset condition (R76). -/
def falseOnsetSeen (q : Params) (x : ChannelInput) : Bool :=
  decide (-((q.a1 / 2 : Nat) : Int) < x.aw) && decide (x.slip < ((slipThreshold q x.vref / 2 : Nat) : Int))

/-- HOLD (R75, R76). -/
def evalHold (q : Params) (x : ChannelInput) (r : ChannelRec) : ChannelOutcome :=
  if ((releaseThreshold q x.vref x.economy : Nat) : Int) ≤ x.slip then silently (enterRelease r)
  else if falseOnsetSeen q x then
    if 3 ≤ r.falseOnset + 1 then withCycleEnd { r with phase := .follow, falseOnset := 0 }
    else silently { r with falseOnset := r.falseOnset + 1 }
  else silently { r with falseOnset := 0 }

/-- RELEASE (R77, R78). -/
def evalRelease (q : Params) (x : ChannelInput) (r : ChannelRec) : ChannelOutcome :=
  if (q.a2 : Int) ≤ x.aw then
    silently { r with phase := .recover, strong := if (q.a3 : Int) ≤ x.aw then true else r.strong }
  else if q.tRelMax ≤ r.releaseCount + 1 then
    { record := { r with phase := .hold, releaseCount := r.releaseCount + 1, faultWait := true }, alert := none,
      overrun := true }
  else silently { r with releaseCount := r.releaseCount + 1 }

/-- The first cap of a reapply before the clamp (R80). -/
def firstCap (economy strong : Bool) (pLock : Nat) : Nat :=
  if economy then pLock / 2 else if strong then pLock * 7 / 8 else pLock * 3 / 4

/-- RECOVER (R79, R80). -/
def evalRecover (q : Params) (x : ChannelInput) (r : ChannelRec) : ChannelOutcome :=
  if (q.a3 : Int) ≤ x.aw then silently { r with strong := true }
  else if locking q x then silently (enterRelease r)
  else if x.aw < (q.a2 : Int) ∧ x.slip < ((slipThreshold q x.vref : Nat) : Int) then
    silently { r with phase := .reapply, stepCount := 0, cap := min (firstCap x.economy r.strong r.pLock) x.pd }
  else silently r

/-- The cap and step count of a reapply after the step due at this update (R82, steps 1 and 2). -/
def reapplyStep (q : Params) (r : ChannelRec) : ChannelRec :=
  if q.stepPeriod ≤ r.stepCount + 1 then { r with cap := r.cap + q.deltaP, stepCount := 0 }
  else { r with stepCount := r.stepCount + 1 }

/-- REAPPLY (R81, R82). -/
def evalReapply (q : Params) (x : ChannelInput) (r : ChannelRec) : ChannelOutcome :=
  if locking q x then silently { r with phase := .hold, pLock := x.pc, falseOnset := 0 }
  else if x.pd ≤ (reapplyStep q r).cap then withCycleEnd { reapplyStep q r with phase := .follow }
  else silently (reapplyStep q r)

/-- Step 5 of R70 in ACTIVE: by phase. -/
def evalByPhase (q : Params) (x : ChannelInput) (r : ChannelRec) : ChannelOutcome :=
  match r.phase with
  | .inactive => silently (beginFollow r)
  | .follow => evalFollow q x r
  | .capped => evalCapped q x r
  | .hold => evalHold q x r
  | .release => evalRelease q x r
  | .recover => evalRecover q x r
  | .reapply => evalReapply q x r
  | .passive => silently r
  | .test => silently r

/-- Step 5 of R70 in QUIET and HELD: only INACTIVE becomes FOLLOW (R65). -/
def evalStanding (r : ChannelRec) : ChannelOutcome :=
  if r.phase = .inactive then silently (beginFollow r) else silently r

/-- The precedence of R70 for one channel; `full` is the evaluation of ACTIVE. -/
def evalChannel (q : Params) (full : Bool) (x : ChannelInput) (r : ChannelRec) : ChannelOutcome :=
  if r.phase = .passive ∨ r.phase = .test ∨ r.faultWait = true then silently r
  else if x.inputFailed then silently (awaitFault r)
  else if !x.braking then (if r.phase = .inactive then silently r else silently (endBraking r))
  else if x.vref < q.vMin then handBack r
  else if full then evalByPhase q x r
  else evalStanding r

/-- How far R65 lets a mode evaluate: not at all, in full, or standing. -/
inductive Evaluation where
  | none
  | full
  | standing
  deriving DecidableEq, Repr

/-- R65's table. -/
def modeEvaluation (m : Mode) : Evaluation :=
  match m with
  | .active => .full
  | .quiet => .standing
  | .held => .standing
  | .starting => .none
  | .service => .none
  | .passive => .none
  | .latched => .none

/-- A channel at an update under the module mode; channel 2 is not evaluated in JOINED (R65). -/
def State.evaluated (s : State) (c : Channel) (u : RefUpdate) : ChannelOutcome :=
  if usesChannel s.arrangement c then
    match modeEvaluation s.fault.mode with
    | .none => silently (chanGet s.slip c)
    | .full => evalChannel s.params true (s.channelInput c u) (chanGet s.slip c)
    | .standing => evalChannel s.params false (s.channelInput c u) (chanGet s.slip c)
  else silently (chanGet s.slip c)

/-- What a channel's evaluation hands on (R86, R87): a phase change or a cap step, the alert, and RELEASE_OVERRUN. -/
def outcomeHandoffs (c : Channel) (before : ChannelRec) (o : ChannelOutcome) : List Instr :=
  (if o.record.phase ≠ before.phase then phaseHandoffs c o.record
    else if o.record.cap ≠ before.cap then [.capStepHandoff c o.record.cap] else [])
    ++ (match o.alert with | some (k, v) => [.alertHanded k (some c) v] | none => [])
    ++ (if o.overrun then [.faultNotice (.channelFault .releaseOverrun c false)] else [])

/-- A reference update taken by the slip controller (R64): both channels from the state as it stood when it was taken. -/
def State.takeUpdate (s : State) (u : RefUpdate) : State :=
  if s.unitsOn then
    { s with slip := ⟨(s.evaluated .ch1 u).record, (s.evaluated .ch2 u).record⟩ }.hand
      (outcomeHandoffs .ch1 s.slip.ch1 (s.evaluated .ch1 u) ++ outcomeHandoffs .ch2 s.slip.ch2 (s.evaluated .ch2 u))
  else s

/-- REFERENCE_UPDATE (R64 to R87, R91, R92). -/
def execReferenceUpdate (u : RefUpdate) (s : State) : Host.Outcome State Fault Refusal :=
  .next ((s.take (.referenceUpdate u)).takeUpdate u)

end Sys2Proof.Machine
end

