-- ==== Sys2Proof/Machine/Speed.lean ====
section
/-! DEFINITION. The speed unit (01_wheel_speed_measurement.md): TOOTH_EDGE and WINDOW_CLOSE. -/

namespace Sys2Proof.Machine

/-! ## TOOTH_EDGE -/

/-- An edge taken by an input that is not FAILED (R1, R5). -/
def edgeInput (t : Time) (i : SpeedInput) : SpeedInput :=
  { i with edges := min 255 (i.edges + 1)
           lastEdge := some t
           state := if i.state = .standstill then .starting else i.state
           startMark := if i.state = .standstill then true else i.startMark }

/-- A tooth edge on an input (R1): counted, recorded and reported to the quiet control and the service responder, unless
the speed unit has not been started or the input is FAILED. -/
def State.takeEdge (s : State) (t : Time) (i : Side) : State :=
  if !s.unitsOn || decide ((sideGet s.speed.inputs i).state = .failed) then s
  else
    { s with speed := { s.speed with
        inputs := sideSet s.speed.inputs i (edgeInput t (sideGet s.speed.inputs i)) } }.hand
      [.wakeEvent (.edge i), .abortEvent (.edge i)]

/-- TOOTH_EDGE (R1, R5, R15). -/
def execToothEdge (t : Time) (i : Side) (s : State) : Host.Outcome State Fault Refusal :=
  .next ((s.stamp t).takeEdge t i)

/-! ## WINDOW_CLOSE -/

/-- Speed from edges over a span: K × E / span, rounded to nearest, saturated at 16383 (R7). -/
def measuredSpeed (k edges span : Nat) : Nat :=
  let d := if span = 0 then 1 else span
  let q := k * edges / d
  let r := k * edges % d
  min 16383 (if d ≤ 2 * r then q + 1 else q)

/-- The bound of a window without an edge: floor(K / elapsed) (R6, R9). -/
def speedBound (k : Nat) (refEdge : Option Time) (t : Time) : Nat := k / elapsed t (refEdge.getD t)

/-- The span from the reference edge to the window's last edge (R7). -/
def edgeSpan (i : SpeedInput) (t : Time) : Nat := elapsed (i.lastEdge.getD t) (i.refEdge.getD t)

/-- An input whose speed for the window is settled: with its held mark, and whether it entered RUNNING at this close. -/
structure SettledInput where
  input : SpeedInput
  held : Bool
  entered : Bool
  deriving DecidableEq, Repr

/-- A burst or a discarded jump: the speed is kept, the jump count rises, the sample is held (R6, R8, R10). -/
def discarded (i : SpeedInput) : SettledInput :=
  { input := { i with jumps := i.jumps + 1 }, held := true, entered := false }

/-- A settled input with no held mark. -/
def settled (i : SpeedInput) : SettledInput := { input := i, held := false, entered := false }

/-- A STARTING input at a close (R6). -/
def settleStarting (k : Nat) (t : Time) (i : SpeedInput) : SettledInput :=
  if i.startMark then settled { i with speed := 0 }
  else if i.edges = 0 then
    if speedBound k i.refEdge t < 64 then settled { i with speed := 0, state := .standstill, refEdge := none }
    else settled { i with speed := 0 }
  else if i.edges ≤ 24 then
    { input := { i with speed := measuredSpeed k i.edges (edgeSpan i t), state := .running, jumps := 0 }
      held := false, entered := true }
  else discarded { i with speed := 0 }

/-- The jump check on a measured sample (R10). -/
def jumpCheck (limit new : Nat) (i : SpeedInput) : SettledInput :=
  if limit < (max new i.speed - min new i.speed) then discarded i
  else settled { i with speed := new, jumps := 0 }

/-- A RUNNING input at a close: measured (R7, R10), burst (R8) or bounded (R9). -/
def settleRunning (k limit : Nat) (t : Time) (i : SpeedInput) : SettledInput :=
  if i.edges = 0 then
    if speedBound k i.refEdge t < 64 then settled { i with speed := 0, state := .standstill, refEdge := none }
    else settled { i with speed := min i.speed (speedBound k i.refEdge t) }
  else if i.edges ≤ 24 then jumpCheck limit (measuredSpeed k i.edges (edgeSpan i t)) i
  else discarded i

/-- Steps 2 and 3 of a close: the speed and state from the window's edges (R2, R5 to R10). -/
def settleInput (k limit : Nat) (t : Time) (i : SpeedInput) : SettledInput :=
  match i.state with
  | .standstill => settled { i with speed := 0 }
  | .starting => settleStarting k t i
  | .running => settleRunning k limit t i
  | .failed => settled i

/-- A speed pushed into the history, the oldest removed (R12). -/
def pushHistory (h : History) (v : Nat) : History := { h0 := h.h1, h1 := h.h2, h2 := h.h3, h3 := v }

/-- Step 4 of a close: history and accel (R12); on entry to RUNNING the history is filled and the accel is 0 (R6). -/
def updateHistory (x : SettledInput) : SpeedInput :=
  if x.entered then
    { x.input with history := ⟨x.input.speed, x.input.speed, x.input.speed, x.input.speed⟩, accel := 0 }
  else
    { x.input with accel := (x.input.speed : Int) - (x.input.history.h0 : Int)
                   history := pushHistory x.input.history x.input.speed }

/-- An input becomes FAILED: speed 0, accel 0, history of zeros (R12, R15). -/
def failInput (i : SpeedInput) : SpeedInput :=
  { i with state := .failed, speed := 0, accel := 0, history := ⟨0, 0, 0, 0⟩ }

/-- An input after its work at a close, with its held mark and the cause it raises. -/
structure ClosedInput where
  input : SpeedInput
  held : Bool
  cause : Option ChannelCause
  deriving DecidableEq, Repr

/-- Step 5 of a close: the dead check. `dead` says that vref is at least 960 and no own channel is in an anti-lock phase
(R14). -/
def deadCheck (dead : Bool) (i : SpeedInput) (held : Bool) : ClosedInput :=
  if dead && decide (i.speed = 0) then
    if 400 ≤ i.dead + 1 then { input := failInput { i with dead := 400 }, held := false, cause := some .speedDead }
    else { input := { i with dead := i.dead + 1 }, held := held, cause := none }
  else { input := { i with dead := 0 }, held := held, cause := none }

/-- Steps 1 to 5 of a close for one input (R2): wire check, settling, jump count, history, dead check. -/
def workInput (k limit : Nat) (dead : Bool) (t : Time) (wire : WireReport) (i : SpeedInput) : ClosedInput :=
  if i.state = .failed then { input := i, held := false, cause := none }
  else if wire ≠ .good then { input := failInput i, held := false, cause := some .speedWire }
  else
    let x := settleInput k limit t i
    if 3 ≤ x.input.jumps then
      { input := failInput { x.input with dead := 0 }, held := false, cause := some .speedJump }
    else deadCheck dead (updateHistory x) x.held

/-- After the work of a close: the reference edge takes the window's last edge where the input is not FAILED and the
window held edges, and the window opens afresh (R2). -/
def openWindow (i : SpeedInput) : SpeedInput :=
  { i with refEdge := if i.edges ≠ 0 ∧ i.state ≠ .failed then i.lastEdge else i.refEdge
           edges := 0, lastEdge := none, startMark := false }

/-- A window close for one input. -/
def closeInput (k limit : Nat) (dead : Bool) (t : Time) (wire : WireReport) (i : SpeedInput) : ClosedInput :=
  { workInput k limit dead t wire i with input := openWindow (workInput k limit dead t wire i).input }

/-- The sample of an input after the close (R3, R15). -/
def sampleOf (x : ClosedInput) : Sample :=
  { state := x.input.state, speed := x.input.speed, accel := x.input.accel, held := x.held }

/-- The fault notice of an input, with the channel it serves (R16). -/
def speedNotice (a : Arrangement) (i : Side) (x : ClosedInput) : List Instr :=
  match x.cause with
  | some c => [.faultNotice (.channelFault c (servedChannel a i) false)]
  | none => []

/-- The condition of the dead check that does not depend on the input (R14). -/
def State.deadCondition (s : State) : Bool := decide (960 ≤ s.view.vref) && !s.antiLockActive

/-- One input of the station at a close. -/
def State.closedInput (s : State) (t : Time) (wires : Sides WireReport) (i : Side) : ClosedInput :=
  closeInput (sideGet s.constants i) s.params.jumpLimit s.deadCondition t (sideGet wires i) (sideGet s.speed.inputs i)

/-- A window close on both inputs (R2): the sample pair goes to the view unit and the notices to the fault unit. -/
def State.closeWindow (s : State) (t : Time) (wires : Sides WireReport) : State :=
  if s.unitsOn && timerDue s.speed.window t then
    { s with speed :=
        { inputs := ⟨(s.closedInput t wires .left).input, (s.closedInput t wires .right).input⟩
          window := nextPeriod s.speed.window } }.hand
      ([Instr.samplePair ⟨sampleOf (s.closedInput t wires .left), sampleOf (s.closedInput t wires .right)⟩]
        ++ speedNotice s.arrangement .left (s.closedInput t wires .left)
        ++ speedNotice s.arrangement .right (s.closedInput t wires .right))
  else s

/-- WINDOW_CLOSE (R2 to R18). -/
def execWindowClose (t : Time) (wires : Sides WireReport) (s : State) : Host.Outcome State Fault Refusal :=
  .next ((s.stamp t).closeWindow t wires)

end Sys2Proof.Machine
end

