-- ==== Sys2Proof/Machine/View.lean ====
section
/-! DEFINITION. The view unit (03_the_vehicle_view.md) and, at each reference update, the quiet control's standstill
condition (R174): SAMPLE_PAIR, STATUS_RECEIVED, ALERT_RECEIVED, STALE_EXPIRY, LOST_EXPIRY, LANE_PHASE_COPY,
MISSING_TIMER_EXPIRY. -/

namespace Sys2Proof.Machine

/-- An entry of the peer table replaced. -/
def State.setPeer (s : State) (p : Position) (e : PeerEntry) : State :=
  { s with view := { s.view with peers := quadSet s.view.peers p e } }

/-- An entry replaced, and the alone flag evaluated if the entry's state changed (R39, R49). -/
def State.replacePeer (s : State) (p : Position) (e : PeerEntry) : State :=
  if e.state = (quadGet s.view.peers p).state then s.setPeer p e else (s.setPeer p e).evalAlone

/-! ## Ageing (R40 to R44) -/

/-- The STALE limit in microseconds (R40). -/
def staleLimit (m : Mode) : Nat := if m = .quiet then 1500000 else 30000

/-- The LOST limit in microseconds (R40). -/
def lostLimit (m : Mode) : Nat := if m = .quiet then 3000000 else 100000

/-- A lane record of an entry that becomes LOST (R42). -/
def clearedLanes : Sides Lane := ⟨Lane.absent, Lane.absent⟩

/-- An entry becomes LOST: lanes and pressures cleared, the rest kept (R42). -/
def loseEntry (e : PeerEntry) : PeerEntry :=
  { e with state := .lost, lanes := clearedLanes, demand := none, reservoir := none }

/-- An entry at its STALE expiry; an expiry that is not due is void (R41, R44). -/
def staleEntry (e : PeerEntry) (t : Time) : PeerEntry :=
  if e.state = .fresh ∧ aged e.accepted t (staleLimit e.mode) = true then { e with state := .stale } else e

/-- An entry at its LOST expiry; an expiry that is not due is void (R42, R44). -/
def lostEntry (e : PeerEntry) (t : Time) : PeerEntry :=
  if e.state = .stale ∧ aged e.accepted t (lostLimit e.mode) = true then loseEntry e else e

/-- STALE_EXPIRY (R41, R49). -/
def execStaleExpiry (t : Time) (p : Position) (s : State) : Host.Outcome State Fault Refusal :=
  .next ((s.stamp t).replacePeer p (staleEntry (quadGet s.view.peers p) t))

/-- LOST_EXPIRY (R42, R49). -/
def execLostExpiry (t : Time) (p : Position) (s : State) : Host.Outcome State Fault Refusal :=
  .next ((s.stamp t).replacePeer p (lostEntry (quadGet s.view.peers p) t))

/-- The missing timer expires (R49). -/
def State.expireMissing (s : State) (t : Time) : State :=
  match s.view.missing with
  | .running tm =>
    if timerDue (some tm) t then { s with view := { s.view with missing := .expired } }.evalAlone else s
  | .stopped => s
  | .expired => s

/-- MISSING_TIMER_EXPIRY (R49). -/
def execMissingTimerExpiry (t : Time) (s : State) : Host.Outcome State Fault Refusal :=
  .next ((s.stamp t).expireMissing t)

/-! ## The judgement of a frame (R36) -/

/-- What R36 finds of a STATUS or ALERT. -/
inductive SenderCase where
  | own
  | foreign
  | badLength
  | peer (p : Position)
  deriving DecidableEq, Repr

/-- R36's table: position first, then payload length. -/
def State.judgeSender (s : State) (sender : Fin 8) (lengthOk : Bool) : SenderCase :=
  if h : sender.val < 4 then
    if (⟨sender.val, h⟩ : Position) = s.position then .own
    else if s.params.stations ≤ sender.val then .foreign
    else if lengthOk then .peer ⟨sender.val, h⟩ else .badLength
  else .foreign

/-- What R36 does with a frame that does not go on. -/
def State.rejectSender (s : State) (c : SenderCase) : State :=
  match c with
  | .own => s.hand [.faultNotice .positionClash]
  | .foreign => s.addForeign 1
  | .badLength => s.addReceiveError
  | .peer _ => s

/-! ## STATUS (R37 to R39) -/

/-- The outcome of R37. -/
inductive SeqOutcome where
  | accepted (missed : Nat)
  | refused
  deriving DecidableEq, Repr

/-- Sequence acceptance (R37): `missed` is the number of reports missed. -/
def judgeSequence (e : PeerEntry) (seq : Byte) : SeqOutcome :=
  match e.state with
  | .empty => .accepted 0
  | .lost => .accepted 0
  | _ =>
    let d := (seq - e.lastSeq.getD 0).toNat
    if 1 ≤ d ∧ d ≤ 128 then .accepted (d - 1) else .refused

/-- The entry an accepted STATUS writes (R38). -/
def acceptedEntry (r : ReadStatus) (t : Time) : PeerEntry :=
  { state := .fresh, lastSeq := some r.seq, accepted := some t, mode := r.mode, arrangement := r.arrangement,
    vref := r.vref, demand := r.demand, reservoir := r.reservoir, lanes := r.lanes }

/-- A STATUS from an expected position (R37, R38, R39). -/
def State.acceptStatus (s : State) (p : Position) (r : ReadStatus) : State :=
  match judgeSequence (quadGet s.view.peers p) r.seq with
  | .accepted missed =>
    ((s.replacePeer p (acceptedEntry r s.now)).addGap missed).hand [.wakeEvent (.acceptance r.mode r.vref)]
  | .refused => s.addDuplicate

/-- A STATUS taken by the view unit (R36). -/
def State.takeStatus (s : State) (sender : Fin 8) (payload : List Byte) : State :=
  if s.unitsOn then
    match s.judgeSender sender (decide (payload.length = 13)) with
    | .peer p => s.acceptStatus p (decodeStatus payload)
    | c => s.rejectSender c
  else s

/-- STATUS_RECEIVED (R36 to R39, R197). -/
def execStatusReceived (sender : Fin 8) (payload : List Byte) (s : State) : Host.Outcome State Fault Refusal :=
  .next ((s.take (.statusReceived sender payload)).takeStatus sender payload)

/-! ## ALERT (R45 to R48) -/

/-- The phase code a lane alert writes (R46). -/
def alertCode (k : AlertKind) : Option LaneCode :=
  match k with
  | .lockOnset => some .hold
  | .cycleEnd => some .openLane
  | .channelPassive => some .passive
  | _ => none

/-- The mode a module alert writes (R47). -/
def alertMode (k : AlertKind) : Option Mode :=
  match k with
  | .moduleHeld => some .held
  | .modulePassive => some .passive
  | .moduleLatched => some .latched
  | .moduleRecovered => some .active
  | _ => none

/-- A phase code written to the lanes a channel field governs in a sender's arrangement (R46); channel 2 of a JOINED
sender governs none. -/
def writeLaneCode (e : PeerEntry) (channel : Nat) (code : LaneCode) : PeerEntry :=
  let left := { e.lanes.left with code := code }
  let right := { e.lanes.right with code := code }
  match e.arrangement, channel with
  | .split, 1 => { e with lanes := { e.lanes with left := left } }
  | .split, 2 => { e with lanes := { e.lanes with right := right } }
  | .joined, 1 => { e with lanes := ⟨left, right⟩ }
  | _, _ => e

/-- The reported mode set by a module alert, and the ageing limits of R40 applied at once when it leaves QUIET (R43). -/
def writeMode (e : PeerEntry) (m : Mode) (t : Time) : PeerEntry :=
  let e' := { e with mode := m }
  if e.mode = .quiet ∧ m ≠ .quiet then
    if aged e.accepted t (lostLimit m) then loseEntry e'
    else if aged e.accepted t (staleLimit m) then { e' with state := .stale }
    else e'
  else e'

/-- An alert entry names an unknown kind, is a POSITION_CLASH, or is a lane alert of channel field 0 or 3: it adds 1 to
the foreign-frame count (R48, R197). -/
def alertIsForeign (a : ReadAlert) : Bool :=
  match alertKindOf a.kind with
  | none => true
  | some .positionClash => true
  | some k => (alertCode k).isSome && (decide (a.channel = 0) || decide (a.channel = 3))

/-- One alert entry applied to the sender's entry (R46, R47, R48). -/
def applyAlert (t : Time) (e : PeerEntry) (a : ReadAlert) : PeerEntry :=
  match alertKindOf a.kind with
  | none => e
  | some k =>
    match alertCode k, alertMode k with
    | some code, _ => writeLaneCode e a.channel code
    | none, some m => writeMode e m t
    | none, none => e

/-- An ALERT from an expected position (R45): set aside from EMPTY or LOST, else each entry applied in frame order. -/
def State.applyAlerts (s : State) (p : Position) (alerts : List ReadAlert) : State :=
  let e := quadGet s.view.peers p
  match e.state with
  | .empty => s
  | .lost => s
  | _ => (s.replacePeer p (alerts.foldl (applyAlert s.now) e)).addForeign (alerts.countP alertIsForeign)

/-- An ALERT taken by the view unit (R36). -/
def State.takeAlert (s : State) (sender : Fin 8) (payload : List Byte) : State :=
  if s.unitsOn then
    match s.judgeSender sender
      (decide (payload.length = 3) || decide (payload.length = 6) || decide (payload.length = 9)
        || decide (payload.length = 12)) with
    | .peer p => s.applyAlerts p (decodeAlerts payload)
    | c => s.rejectSender c
  else s

/-- ALERT_RECEIVED (R36, R43, R45 to R48, R197). -/
def execAlertReceived (sender : Fin 8) (payload : List Byte) (s : State) : Host.Outcome State Fault Refusal :=
  .next ((s.take (.alertReceived sender payload)).takeAlert sender payload)

/-! ## The own lanes (R50, R51) -/

/-- A phase copied into the own lane or lanes that carry the channel (R51): both lanes carry channel 1 in JOINED. -/
def copyCode (a : Arrangement) (c : Channel) (code : LaneCode) (x : Sides Lane) : Sides Lane :=
  match a, c with
  | .split, .ch1 => { x with left := { x.left with code := code } }
  | .split, .ch2 => { x with right := { x.right with code := code } }
  | .joined, .ch1 => ⟨{ x.left with code := code }, { x.right with code := code }⟩
  | .joined, .ch2 => x

/-- The own lanes of the wheel vector. -/
def State.ownLanes (s : State) : Sides Lane := quadGet s.view.lanes s.position

/-- A phase change copied into the own lanes (R51). -/
def State.copyPhase (s : State) (c : Channel) (phase : Phase) : State :=
  if s.begun then
    { s with view := { s.view with
        lanes := quadSet s.view.lanes s.position (copyCode s.arrangement c (phaseLaneCode phase) s.ownLanes) } }
  else s

/-- LANE_PHASE_COPY (R51), taken in its turn (R86). -/
def execLanePhaseCopy (c : Channel) (phase : Phase) (s : State) : Host.Outcome State Fault Refusal :=
  .next (s.takeInTurn (.lanePhaseCopy c phase) fun x => x.copyPhase c phase)

/-- One handed event taken if it is a lane copy. -/
def State.takeCopy (s : State) (c : Instr) : State :=
  match c with
  | .lanePhaseCopy ch phase => (s.take c).copyPhase ch phase
  | _ => s

/-- Every lane copy handed and not yet taken is taken, in the order handed (R51, R86). -/
def State.takeCopies (s : State) : State := s.handed.foldl State.takeCopy s

/-! ## The reference update (R53 to R61) -/

/-- An own lane filled from its sample (R50); its phase code is the code last copied (R51, R90). -/
def fillOwn (x : Sample) (old : Lane) : Lane :=
  if x.state = .failed then { speed := none, accel := 0, code := old.code }
  else { speed := some x.speed, accel := x.accel, code := old.code }

/-- A peer entry's lanes as the vector reads them (R52). -/
def vectorLanes (e : PeerEntry) : Sides Lane :=
  match e.state with
  | .fresh => e.lanes
  | .stale => e.lanes
  | .lost => ⟨Lane.absent, Lane.absent⟩
  | .empty => ⟨Lane.absent, Lane.absent⟩

/-- The wheel vector filled at a sample pair (R50, R52). -/
def State.filledVector (s : State) (pair : Sides Sample) : Quad (Sides Lane) :=
  quadSet
    { p0 := vectorLanes s.view.peers.p0, p1 := vectorLanes s.view.peers.p1, p2 := vectorLanes s.view.peers.p2,
      p3 := vectorLanes s.view.peers.p3 }
    s.position ⟨fillOwn pair.left s.ownLanes.left, fillOwn pair.right s.ownLanes.right⟩

/-- The window marks kept of an own lane (R50). -/
def windowOf (x : Sample) : OwnWindow := { state := x.state, held := x.held }

/-- The view unit with its lanes filled (R53, step 1). -/
def State.fillLanes (s : State) (pair : Sides Sample) : State :=
  { s with view := { s.view with
      lanes := s.filledVector pair, own := ⟨windowOf pair.left, windowOf pair.right⟩ } }

/-- A candidate: the position of its station and its speed (R54). -/
structure Candidate where
  position : Position
  speed : Nat
  deriving DecidableEq, Repr

/-- A present lane that is not in RELEASE is a candidate where its group lets it (R54). -/
def laneCandidate (p : Position) (ok : Bool) (l : Lane) : List Candidate :=
  match l.speed with
  | some v => if ok && decide (l.code ≠ .release) then [⟨p, v⟩] else []
  | none => []

/-- An own lane's input is RUNNING and its sample is not held (R54). -/
def ownEligible (w : OwnWindow) : Bool := decide (w.state = .running) && !w.held

/-- The candidates of one station, from the filled vector (R54). -/
def State.candidatesAt (s : State) (p : Position) : List Candidate :=
  let l := quadGet s.view.lanes p
  if p = s.position then
    laneCandidate p (ownEligible s.view.own.left) l.left ++ laneCandidate p (ownEligible s.view.own.right) l.right
  else
    let ok := decide ((quadGet s.view.peers p).state = .fresh)
    laneCandidate p ok l.left ++ laneCandidate p ok l.right

/-- The candidates of the update (R54). -/
def State.candidates (s : State) : List Candidate := positions.flatMap s.candidatesAt

/-- The lowest of some values; absent when there is none. -/
def lowest (xs : List Nat) : Option Nat :=
  match xs with
  | [] => none
  | x :: rest => some (rest.foldl min x)

/-- The highest of some speeds; absent when there is none. -/
def highestSpeed (xs : List Nat) : Option Nat :=
  match xs with
  | [] => none
  | x :: rest => some (rest.foldl max x)

/-- The candidate value (R55); absent when there is no candidate. -/
def candidateValue (braking : Bool) (freeRolling : BitVec 4) (cs : List Candidate) : Option Nat :=
  if braking then highestSpeed (cs.map (·.speed))
  else
    match highestSpeed ((cs.filter fun c => freeRolling.getLsbD c.position.val).map (·.speed)) with
    | some v => some v
    | none => lowest (cs.map (·.speed))

/-- vref and the coasting count before the peer floor (R56, R57, R59). -/
def rampedVref (q : Params) (first : Bool) (prev coasting : Nat) (value : Option Nat) : Nat × Nat :=
  match first, value with
  | true, some v => (v, 0)
  | true, none => (0, 1)
  | false, some v => (max (prev - q.dramp) (min (prev + q.aramp) v), 0)
  | false, none => (prev - q.dramp, min 255 (coasting + 1))

/-- The vrefs FRESH entries report (R58). -/
def State.freshVrefs (s : State) : List Nat :=
  positions.filterMap fun p =>
    if (quadGet s.view.peers p).state = .fresh then some (quadGet s.view.peers p).vref else none

/-- The peer floor (R58). -/
def peerFloor (tolerance vref : Nat) (reported : Option Nat) : Nat :=
  match reported with
  | some r => if vref + tolerance < r then r - tolerance else vref
  | none => vref

/-- The bit of a lane in the mask, set when its speed is present and it is in an anti-lock phase (R60). -/
def maskBit (n : Nat) (l : Lane) : BitVec 8 :=
  if l.speed.isSome && laneAntiLock l.code then BitVec.ofNat 8 (2 ^ n) else 0

/-- The active mask of a vector (R60). -/
def maskOf (v : Quad (Sides Lane)) : BitVec 8 :=
  maskBit 0 v.p0.left ||| maskBit 1 v.p0.right ||| maskBit 2 v.p1.left ||| maskBit 3 v.p1.right
    ||| maskBit 4 v.p2.left ||| maskBit 5 v.p2.right ||| maskBit 6 v.p3.left ||| maskBit 7 v.p3.right

/-- vref and the coasting count of the update, the lanes filled (R53, steps 2 to 4). -/
def State.nextVref (s : State) : Nat × Nat :=
  let value := candidateValue s.pressure.braking s.params.freeRolling s.candidates
  let r := rampedVref s.params s.view.firstWindow s.view.vref s.view.coasting value
  (peerFloor s.params.tolerance r.1 (highestSpeed s.freshVrefs), r.2)

/-- Steps 2 to 5 of R53 on a view whose lanes are filled. -/
def State.computeView (s : State) : State :=
  { s with view := { s.view with
      vref := s.nextVref.1, coasting := s.nextVref.2, firstWindow := false, mask := maskOf s.view.lanes } }

/-- A FRESH or STALE entry reports vref 0 or mode QUIET; other entries take no part (R174). -/
def entryAtRest (e : PeerEntry) : Bool :=
  match e.state with
  | .fresh => decide (e.vref = 0) || decide (e.mode = .quiet)
  | .stale => decide (e.vref = 0) || decide (e.mode = .quiet)
  | .lost => true
  | .empty => true

/-- The standstill condition (R174), vref and the peer table as they stand after the update. -/
def State.standstillHolds (s : State) (pair : Sides Sample) : Bool :=
  decide (s.view.vref = 0) && decide (pair.left.state = .standstill) && decide (pair.right.state = .standstill)
    && positions.all fun p => entryAtRest (quadGet s.view.peers p)

/-- The quiet control at a reference update that finds the mode ACTIVE (R174). -/
def State.judgeStandstill (s : State) (pair : Sides Sample) : State :=
  if s.fault.mode = .active then
    let s' := { s with standstill := runWhile (s.standstillHolds pair) s.standstill s.now }
    if s.standstillHolds pair && aged s.standstill s.now 3000000 then s'.hand [.quietEntry] else s'
  else s

/-- The reference update handed on (R61), and the wake notice of a vref above 0 (R176). -/
def State.handUpdate (s : State) (pair : Sides Sample) : State :=
  s.hand ([.referenceUpdate { vref := s.view.vref, samples := pair, mask := s.view.mask }]
    ++ (if 0 < s.view.vref then [.wakeEvent (.reference s.view.vref)] else []))

/-- A sample pair taken by the view unit (R53, R174). -/
def State.takePair (s : State) (pair : Sides Sample) : State :=
  if s.unitsOn then (((s.fillLanes pair).computeView).handUpdate pair).judgeStandstill pair else s

/-- SAMPLE_PAIR (R50, R52 to R61, R174). -/
def execSamplePair (pair : Sides Sample) (s : State) : Host.Outcome State Fault Refusal :=
  .next ((s.take (.samplePair pair)).takePair pair)

end Sys2Proof.Machine
end

