-- ==== Sys2Proof/Machine/Starting.lean ====
section
/-! DEFINITION. The start-up unit (10_start_up_and_parameters.md): START_SEQUENCE, READ_COMPLETION, LISTEN_EXPIRY,
STARTING_EXPIRY. -/

namespace Sys2Proof.Machine

/-! ## START_SEQUENCE (R178, R180) -/

/-- The position the straps give: 2 × POS1 + POS0 (R180). -/
def strapPosition (x : Straps) : Position :=
  match x.pos1, x.pos0 with
  | false, false => 0
  | false, true => 1
  | true, false => 2
  | true, true => 3

/-- The straps sampled, the thresholds selected, the supply monitor started and the read begun; module time and the
millisecond count begin at 0 (R178, R180, R168). A brown-out or under run begun before the start stands (log entry 28). -/
def State.beginStart (s : State) (x : Straps) : State :=
  if s.startup.stage = .heldInReset then
    { s with
      now := 0
      startup := { s.startup with
        stage := .reading, position := some (strapPosition x),
        arrangement := some (if x.arr then .joined else .split), nominal := some (if x.nom then .v24 else .v12) }
      supply := { s.supply with timer := setTimer 0 1000 }
      fault := { s.fault with milliTimer := setTimer 0 1000 } }
  else s

/-- START_SEQUENCE (R172, R178, R180). -/
def execStartSequence (x : Straps) (s : State) : Host.Outcome State Fault Refusal := .next (s.beginStart x)

/-! ## READ_COMPLETION (R181 to R184, R187) -/

/-- A value clamped to a range. -/
def clampTo (lo hi v : Nat) : Nat := max lo (min hi v)

/-- Each of four sensor values clamped to a range. -/
def clampSensors (lo hi : Nat) (x : PerSensor) : PerSensor :=
  { demand := clampTo lo hi x.demand, chamber1 := clampTo lo hi x.chamber1, chamber2 := clampTo lo hi x.chamber2,
    reservoir := clampTo lo hi x.reservoir }

/-- Pass 1 of R183: each parameter clamped to its range in 10, section 10.3. -/
def clampRanges (p : Params) : Params :=
  { stations := clampTo 2 4 p.stations, freeRolling := p.freeRolling, teeth := clampTo 40 120 p.teeth,
    circLeft := clampTo 2000 4000 p.circLeft, circRight := clampTo 2000 4000 p.circRight,
    jumpLimit := clampTo 64 400 p.jumpLimit, dramp := clampTo 2 24 p.dramp, aramp := clampTo 1 8 p.aramp,
    tolerance := clampTo 32 512 p.tolerance, slipAbs := clampTo 32 512 p.slipAbs, slipRel := clampTo 0 64 p.slipRel,
    a1 := clampTo 10 200 p.a1, a2 := clampTo 5 150 p.a2, a3 := clampTo 20 300 p.a3,
    vEntry := clampTo 256 1280 p.vEntry, vMin := clampTo 192 1216 p.vMin, pOn := clampTo 100 1000 p.pOn,
    pOff := clampTo 50 950 p.pOff, deltaP := clampTo 50 1000 p.deltaP, stepPeriod := clampTo 4 40 p.stepPeriod,
    tRelMax := clampTo 40 200 p.tRelMax, yawMargin := clampTo 0 3000 p.yawMargin, yawStep := clampTo 5 200 p.yawStep,
    pEcon := clampTo 3000 8000 p.pEcon, kp := clampTo 0 255 p.kp, ki := clampTo 0 255 p.ki,
    uOn := clampTo 1 65535 p.uOn, offsets := clampSensors 0 1023 p.offsets, gains := clampSensors 64 1023 p.gains }

/-- Pass 2 of R183: P_off, A2 and v_min clamped against their partners. -/
def clampOrder (p : Params) : Params :=
  { p with pOff := min p.pOff (p.pOn - 50), a2 := min p.a2 (p.a3 - 1), vMin := min p.vMin (p.vEntry - 64) }

/-- The parameter set settled from the stored values (R183). -/
def settleParams (p : Params) : Params := clampOrder (clampRanges p)

/-- The block is good: version 1 and the check over bytes 0 to 61 (R182). -/
def blockGood (bs : List Byte) : Bool :=
  decide (byteAt bs 0 = 1#8) && decide ((crcBits (bytesBits (bs.take 62))).toNat = bytesNat bs 62 2)

/-- The judgement of R182, with the position check on the settled station count: good is true. -/
def blockAccepted (bs : List Byte) (position : Position) : Bool :=
  blockGood bs && decide (position.val < (settleParams (storedParams bs)).stations)

/-- One speed constant: floor(230400 × C / N) (R4). -/
def speedConstant (circ teeth : Nat) : Nat := 230400 * circ / teeth

/-- K_L and K_R of a parameter set (R4). -/
def speedConstants (p : Params) : Sides Nat := ⟨speedConstant p.circLeft p.teeth, speedConstant p.circRight p.teeth⟩

/-- The parameter set in force after the judgement (R183, R187). -/
def paramsInForce (bs : List Byte) (position : Position) : Params :=
  if blockAccepted bs position then settleParams (storedParams bs) else defaultParams

/-- The clamped flag: some settled value differs from the stored one; clear on the defaults (R183, R187). -/
def clampedFlag (bs : List Byte) (position : Position) : Bool :=
  blockAccepted bs position && decide (settleParams (storedParams bs) ≠ storedParams bs)

/-- The start-up unit after the read completion (R182 to R184). -/
def State.readStartUp (s : State) (t : Time) (bs : List Byte) : StartUp :=
  { s.startup with
    stage := .listening, rawBlock := bs, params := some (paramsInForce bs s.position)
    configBad := !blockAccepted bs s.position, clamped := clampedFlag bs s.position
    constants := some (speedConstants (paramsInForce bs s.position)), listenTimer := setTimer t 50000 }

/-- The units that run from the read completion started (R184): speed unit, pressure unit, valve driver. The view unit
and the receive side begin as the reset left them. -/
def State.startUnits (s : State) (t : Time) : State :=
  { s with speed := { s.speed with window := setTimer t 5000 }
           pressure := { s.pressure with timer := setTimer t 1000 }
           driver := { s.driver with
             chans := ⟨startChecks (s.live .ch1) t s.driver.chans.ch1, startChecks (s.live .ch2) t s.driver.chans.ch2⟩ } }

/-- The read completion (R181, R182, R184). -/
def State.completeRead (s : State) (t : Time) (bs : List Byte) : State :=
  if s.startup.stage = .reading then { s with startup := s.readStartUp t bs }.startUnits t else s

/-- READ_COMPLETION (R4, R112, R182 to R184, R187). -/
def execReadCompletion (t : Time) (bs : List Byte) (s : State) : Host.Outcome State Fault Refusal :=
  .next ((s.stamp t).completeRead t bs)

/-! ## LISTEN_EXPIRY and STARTING_EXPIRY (R185, R186) -/

/-- The transmitter ends its listen (R125, R185). -/
def State.enableTransmitter (s : State) : State := { s with link := { s.link with tx := .enabled } }

/-- CONFIG_BAD taken by the fault unit when the config-bad mark is set, and the forced phases copied into the own lanes at
that moment, so that the first STATUS carries PASSIVE in both (R51, R152, R154, R185, R187; log entry 10). -/
def State.raiseConfigBad (s : State) : State :=
  if s.startup.configBad then (s.takeNotice .configBad).takeCopies else s

/-- The stage REPORTING with its STARTING timer (R185). -/
def State.beginReporting (s : State) (t : Time) : State :=
  { s with startup := { s.startup with stage := .reporting, listenTimer := none, startingTimer := setTimer t 200000 } }

/-- The listen expiry (R185): CONFIG_BAD, the transmitter, the stage, then the composer's first STATUS (R132). -/
def State.endListen (s : State) (t : Time) : State :=
  if decide (s.startup.stage = .listening) && timerDue s.startup.listenTimer t then
    (((s.raiseConfigBad).enableTransmitter).beginReporting t).report t 10000
  else s

/-- LISTEN_EXPIRY (R125, R132, R152, R185). -/
def execListenExpiry (t : Time) (s : State) : Host.Outcome State Fault Refusal := .next ((s.stamp t).endListen t)

/-- The STARTING expiry: the end of STARTING handed to the fault unit, the stage DONE (R186). -/
def State.endStarting (s : State) (t : Time) : State :=
  if decide (s.startup.stage = .reporting) && timerDue s.startup.startingTimer t then
    { s with startup := { s.startup with stage := .done, startingTimer := none } }.hand [.endOfStarting]
  else s

/-- STARTING_EXPIRY (R186). -/
def execStartingExpiry (t : Time) (s : State) : Host.Outcome State Fault Refusal := .next ((s.stamp t).endStarting t)

end Sys2Proof.Machine
end

