-- ==== Sys2Proof/Config.lean ====
section
/-! DEFINITION. What the spec leaves open and nothing may choose: the free values. -/

namespace Sys2Proof

/-- The supply value (units of 10 mV) that stands after a low-voltage notice. R172 says only that the notice is taken
as a reading below every threshold and comes when VSUP falls below 6.00 V; the value itself is not stated, so it is
free below 600. The argument counts the free values drawn so far (log entry 4). -/
opaque Config.freeLowSupply : Nat → Fin 600

end Sys2Proof
end

