-- ==== Sys2Proof/Machine/SupplyQuiet.lean ====
section
/-! DEFINITION. The supply monitor, the brown-out monitor and the quiet control's wake events
(09_supply_monitoring_and_quiet_running.md), and the power-on reset (10): POWER_ON_RESET, SUPPLY_SAMPLE,
BROWN_OUT_NOTICE, BROWN_OUT_EXPIRY, BROWN_OUT_RISE, WAKE_EVENT. -/

namespace Sys2Proof.Machine

/-- POWER_ON_RESET (R178 and the reset table of each chapter). -/
def execPowerOnReset (s : State) : Host.Outcome State Fault Refusal := .next s.powerOn

/-! ## Supply samples (R167 to R171) -/

/-- The supply thresholds, in 10 mV (R167). -/
structure Thresholds where
  sag : Nat
  recovery : Nat
  under : Nat
  underExit : Nat
  deriving DecidableEq, Repr

/-- R167's table. -/
def thresholdsOf (n : Nominal) : Thresholds :=
  match n with
  | .v24 => { sag := 2000, recovery := 2100, under := 1600, underExit := 1800 }
  | .v12 => { sag := 1000, recovery := 1050, under := 800, underExit := 900 }

/-- How a reading stands to the thresholds. -/
structure ReadingClass where
  belowSag : Bool
  belowUnder : Bool
  atRecovery : Bool
  atUnderExit : Bool
  deriving DecidableEq, Repr

/-- A reading against a threshold set. -/
def classify (x : Thresholds) (value : Nat) : ReadingClass :=
  { belowSag := decide (value < x.sag), belowUnder := decide (value < x.under)
    atRecovery := decide (x.recovery ≤ value), atUnderExit := decide (x.underExit ≤ value) }

/-- A reading below every threshold of either nominal voltage (R172). -/
def belowAll : ReadingClass := { belowSag := true, belowUnder := true, atRecovery := false, atUnderExit := false }

/-- The under run is kept in NORMAL and SAG (R168). -/
def keepsUnder (x : SupplyState) : Bool := decide (x ≠ .under)

/-- The recovery run is kept in SAG and UNDER (R168). -/
def keepsRecovery (x : SupplyState) : Bool := decide (x ≠ .normal)

/-- The rise run is kept in UNDER (R168). -/
def keepsRise (x : SupplyState) : Bool := decide (x = .under)

/-- The three runs updated from a reading, in the states that keep them (R168). -/
def updateRuns (x : ReadingClass) (t : Time) (u : Supply) : Supply :=
  { u with underRun := runWhile (keepsUnder u.state && x.belowUnder) u.underRun t
           recoveryRun := runWhile (keepsRecovery u.state && x.atRecovery) u.recoveryRun t
           riseRun := runWhile (keepsRise u.state && x.atUnderExit) u.riseRun t }

/-- The supply state after a reading, the runs updated (R169, R170). -/
def nextSupplyState (x : ReadingClass) (t : Time) (u : Supply) : SupplyState :=
  match u.state with
  | .normal => if aged u.underRun t 50000 then .under else if x.belowSag then .sag else .normal
  | .sag => if aged u.underRun t 50000 then .under else if aged u.recoveryRun t 100000 then .normal else .sag
  | .under =>
    if aged u.riseRun t 200000 then (if aged u.recoveryRun t 100000 then .normal else .sag) else .under

/-- A change of supply state makes absent every run the new state does not keep (R168). -/
def enterSupplyState (y : SupplyState) (u : Supply) : Supply :=
  { u with state := y
           underRun := if keepsUnder y then u.underRun else none
           recoveryRun := if keepsRecovery y then u.recoveryRun else none
           riseRun := if keepsRise y && keepsRise u.state then u.riseRun else none }

/-- What a change of supply state hands on (R171). -/
def supplyHandoffs (before after : SupplyState) : List Instr :=
  (if before = .under ∧ after ≠ .under then [.causeCleared .supplyUnder] else [])
    ++ (if after = .sag ∧ before ≠ .sag then [.supplySagNotice, .sagEntry, .abortEvent .sagEntry] else [])
    ++ (if after = .under ∧ before ≠ .under then [.faultNotice (.reversible .supplyUnder)] else [])

/-- A supply sample of a class of reading, with the value that then stands (R168). -/
def State.judgeSupply (s : State) (t : Time) (x : ReadingClass) (value : Nat) : State :=
  let u := updateRuns x t { s.supply with value := value }
  { s with supply := enterSupplyState (nextSupplyState x t u) u }.hand
    (supplyHandoffs s.supply.state (nextSupplyState x t u))

/-- A supply sample; the thresholds are those the NOM strap chose (R167, R168, R180). -/
def State.takeSupplySample (s : State) (t : Time) (value : Nat) : State :=
  match s.startup.nominal with
  | some n =>
    if timerDue s.supply.timer t then
      { s with supply := { s.supply with timer := nextPeriod s.supply.timer } }.judgeSupply t
        (classify (thresholdsOf n) (min 4095 value)) (min 4095 value)
    else s
  | none => s

/-- SUPPLY_SAMPLE (R168 to R171). -/
def execSupplySample (t : Time) (value : Nat) (s : State) : Host.Outcome State Fault Refusal :=
  .next ((s.stamp t).takeSupplySample t value)

/-! ## Brown-out (R172) -/

/-- The low-voltage notice: a supply sample below every threshold, in any state; its value is free (R172, log entry 4). A
fall while the supply already stands below 6.00 V is no first fall. Before the straps are sampled module time has not
begun; the runs then begin at the command's time, and START_SEQUENCE leaves them as they are (log entry 28). -/
def State.takeLowVoltage (s : State) (t : Time) : State :=
  if s.supply.brownOut.isSome then s
  else
    { s with supply := { s.supply with brownOut := setTimer t 1000 }, freeIndex := s.freeIndex + 1 }.judgeSupply t
      belowAll (Config.freeLowSupply s.freeIndex).val

/-- BROWN_OUT_NOTICE (R172, R169, R171). -/
def execBrownOutNotice (t : Time) (s : State) : Host.Outcome State Fault Refusal :=
  .next ((s.stamp t).takeLowVoltage t)

/-- An entry to SAG handed and not yet taken sets the supply event flag before the restart that the flag survives (R172,
log entry 8). A station in SAG or UNDER already, whose flag a CLEAR has cleared, enters SAG at no moment of the brown-out,
and its flag stays clear (R164, R171; log entry 29). -/
def State.settleSag (s : State) : State := if s.handed.contains .supplySagNotice then s.setSupplyEvent else s

/-- The supply has stayed below 6.00 V for 1 ms: a warm restart (R172). -/
def State.brownOut (s : State) (t : Time) : State :=
  if timerDue s.supply.brownOut t then (s.settleSag).warmRestart else s

/-- BROWN_OUT_EXPIRY (R172, R178). -/
def execBrownOutExpiry (t : Time) (s : State) : Host.Outcome State Fault Refusal := .next ((s.stamp t).brownOut t)

/-- The supply rises to 6.00 V or above before the 1 ms has run (R172). -/
def State.endBrownOut (s : State) (t : Time) : State :=
  if timerDue s.supply.brownOut t then s else { s with supply := { s.supply with brownOut := none } }

/-- BROWN_OUT_RISE (R172). -/
def execBrownOutRise (t : Time) (s : State) : Host.Outcome State Fault Refusal := .next ((s.stamp t).endBrownOut t)

/-! ## Wake events (R176) -/

/-- A notice is a wake event: an acceptance only of a mode other than QUIET with a vref above 0, an update only with a
vref above 0 (R176). -/
def isWake (w : WakeEvent) : Bool :=
  match w with
  | .edge _ => true
  | .acceptance m v => decide (m ≠ .quiet) && decide (0 < v)
  | .request => true
  | .brakingRise => true
  | .reference v => decide (0 < v)

/-- What the quiet control does with a wake event, by the mode it finds (R176). -/
def State.wake (s : State) (w : WakeEvent) : State :=
  if isWake w then
    match s.fault.mode with
    | .quiet => s.hand [.quietExit]
    | .active => { s with standstill := none }
    | .starting => s
    | .service => s
    | .held => s
    | .passive => s
    | .latched => s
  else s

/-- WAKE_EVENT (R174, R176). -/
def execWakeEvent (w : WakeEvent) (s : State) : Host.Outcome State Fault Refusal :=
  .next ((s.take (.wakeEvent w)).wake w)

end Sys2Proof.Machine
end

