-- ==== Sys2Proof/Machine/Workshop.lean ====
section
/-! DEFINITION. The service responder (11_workshop_service.md): READ_RECORD, READ_STATS, CLEAR, RESTART, VALVE_TEST,
BAD_REQUEST, SERVICE_ANSWER, STEP_TIMER_EXPIRY, ABORT_EVENT, REPLY_SUCCESS_NOTICE, RESTART_TIMER_EXPIRY. -/

namespace Sys2Proof.Machine

/-! ## Replies (R190) -/

/-- A reply composed and handed to the reply slot (R190). -/
def State.reply (s : State) (kind : Byte) (o : ReplyOutcome) (why : ReplyReason) (data : List Byte) : State :=
  s.putReply { payload := replyBytes s.position kind o why data, restartReply := false }

/-- A refusal, with its reason (R189). -/
def State.refuse (s : State) (kind : Byte) (why : ReplyReason) : State := s.reply kind .refused why []

/-! ## The requests (R189 to R194) -/

/-- The fault memory as a READ_RECORD shows it: as it stands, and empty while the clearing of an accepted CLEAR is handed and
not yet taken, for a READ_RECORD answered after the CLEAR shows an empty record (R191, R192; log entry 1). -/
def State.shownMemory (s : State) : FaultUnit :=
  if s.handed.contains .serviceClear then emptyMemory s.fault else s.fault

/-- READ_RECORD answered (R191). -/
def State.answerRecord (s : State) : State :=
  s.reply reqReadRecord .done .none (recordData s.shownMemory s.startup.clamped)

/-- READ_STATS answered (R191). -/
def State.answerStats (s : State) : State := s.reply reqReadStats .done .none (statsData s.link.stats)

/-- An accepted CLEAR (R192): handed to the fault unit, the link statistics set to 0, DONE. -/
def State.acceptClear (s : State) : State :=
  ((s.setStats LinkStats.zero).hand [.serviceClear]).reply reqClear .done .none []

/-- An accepted RESTART (R193): mark, timer, and the restart reply. -/
def State.acceptRestart (s : State) : State :=
  { s with service := { s.service with restartMark := true, restartTimer := setTimer s.now 100000 } }.putReply
    { payload := replyBytes s.position reqRestart .done .none [], restartReply := true }

/-- An accepted VALVE_TEST (R194): ASKING, and the change into SERVICE handed. -/
def State.acceptTest (s : State) (c : Channel) : State :=
  { s with service := { s.service with test := .asking c } }.hand [.serviceEntry]

/-- A channel's phase is INACTIVE or PASSIVE (R189, R194). -/
def restingPhase (p : Phase) : Bool := decide (p = .inactive) || decide (p = .passive)

/-- Both channels are INACTIVE or PASSIVE (R189). -/
def State.channelsRest (s : State) : Bool := restingPhase s.slip.ch1.phase && restingPhase s.slip.ch2.phase

/-- The responder is busy: ASKING, RUNNING or the restart mark set (R189). -/
def State.responderBusy (s : State) : Bool := decide (s.service.test ≠ .none) || s.service.restartMark

/-- The channel a request names, when the request is not a bad one by R189's first case: for VALVE_TEST the channel the
argument names, where the arrangement uses it. -/
def State.testChannel (s : State) (arg : Byte) : Option Channel :=
  match argChannel arg with
  | some c => if usesChannel s.arrangement c then some c else none
  | none => none

/-- The cases of R189 shared by CLEAR, RESTART and VALVE_TEST: BUSY, MOVING, BRAKING; none when all pass. -/
def State.commonRefusal (s : State) : Option ReplyReason :=
  if s.responderBusy then some .busy
  else if s.view.vref ≠ 0 then some .moving
  else if s.pressure.braking then some .braking
  else none

/-- CLEAR and RESTART judged (R189). -/
def State.judgeCommon (s : State) (kind : Byte) (accept : State → State) : State :=
  match s.commonRefusal with
  | some why => s.refuse kind why
  | none => accept s

/-- VALVE_TEST judged (R189). -/
def State.judgeTest (s : State) (arg : Byte) : State :=
  match s.testChannel arg with
  | none => s.refuse reqValveTest .badRequest
  | some c =>
    match s.commonRefusal with
    | some why => s.refuse reqValveTest why
    | none =>
      if !s.channelsRest then s.refuse reqValveTest .braking
      else if supplyLow s.supply.state then s.refuse reqValveTest .supply
      else if (chanGet s.slip c).phase = .passive then s.refuse reqValveTest .badRequest
      else s.acceptTest c

/-- A request judged by its kind (R189). -/
def State.judgeRequest (s : State) (kind arg : Byte) : State :=
  if kind = reqReadRecord then s.answerRecord
  else if kind = reqReadStats then s.answerStats
  else if kind = reqClear then s.judgeCommon kind State.acceptClear
  else if kind = reqRestart then s.judgeCommon kind State.acceptRestart
  else if kind = reqValveTest then s.judgeTest arg
  else s.refuse kind .badRequest

/-- A SERVICE_REQ taken by the responder: not judged before the listen expiry (R185); a wrong length counts a receive
error (R198); another target is ignored; else the quiet control gets its request notice and the request is judged
(R189). -/
def State.takeRequest (s : State) (kind : Byte) (r : ServiceReq) : State :=
  if !s.responderOn then s
  else if r.length ≠ 3 then s.addReceiveError
  else if requestTarget r ≠ s.position.val then s
  else (s.hand [.wakeEvent .request]).judgeRequest kind r.arg

/-- READ_RECORD (R189 to R192, R198). -/
def execReadRecord (r : ServiceReq) (s : State) : Host.Outcome State Fault Refusal :=
  .next ((s.take (.readRecord r)).takeRequest reqReadRecord r)

/-- READ_STATS (R189 to R191, R198). -/
def execReadStats (r : ServiceReq) (s : State) : Host.Outcome State Fault Refusal :=
  .next ((s.take (.readStats r)).takeRequest reqReadStats r)

/-- CLEAR (R189, R192, R198). -/
def execClear (r : ServiceReq) (s : State) : Host.Outcome State Fault Refusal :=
  .next ((s.take (.clear r)).takeRequest reqClear r)

/-- RESTART (R189, R193, R198). -/
def execRestart (r : ServiceReq) (s : State) : Host.Outcome State Fault Refusal :=
  .next ((s.take (.restart r)).takeRequest reqRestart r)

/-- VALVE_TEST (R189, R194, R198). -/
def execValveTest (r : ServiceReq) (s : State) : Host.Outcome State Fault Refusal :=
  .next ((s.take (.valveTest r)).takeRequest reqValveTest r)

/-- BAD_REQUEST (R189, R198): the kind is carried back as received. -/
def execBadRequest (kind : Byte) (r : ServiceReq) (s : State) : Host.Outcome State Fault Refusal :=
  .next ((s.take (.badRequest kind r)).takeRequest kind r)

/-! ## The valve test (R194 to R196) -/

/-- The length of a test step in microseconds (R195). -/
def testStepMicros (x : TestStep) : Nat :=
  match x with
  | .hold => 100000
  | .exhaust => 100000
  | .pass => 300000

/-- The test state and the step timer set to a step, whose pattern is handed to the valve driver (R194, R195). -/
def State.enterTestStep (s : State) (c : Channel) (round : Nat) (x : TestStep) (t : Time) : State :=
  { s with service := { s.service with test := .running c round x, stepTimer := setTimer t (testStepMicros x) } }.hand
    [.testStep c (testStepPattern x)]

/-- The responder sets a channel's phase, and the change is handed on (R89, R86). -/
def State.setPhase (s : State) (c : Channel) (p : Phase) : State :=
  (s.setChannel c { chanGet s.slip c with phase := p }).hand (phaseHandoffs c { chanGet s.slip c with phase := p })

/-- The test state NONE and the step timer stopped (R195, R196). -/
def State.endTest (s : State) : State := { s with service := { s.service with test := .none, stepTimer := none } }

/-- A channel still in TEST becomes INACTIVE (R195, R196). -/
def State.leaveTest (s : State) (c : Channel) : State :=
  if (chanGet s.slip c).phase = .test then s.setPhase c .inactive else s

/-- The fault unit accepted the change into SERVICE for a test on `c` (R194). -/
def State.startTest (s : State) (c : Channel) : State :=
  if (chanGet s.slip c).phase = .inactive ∧ restingPhase (chanGet s.slip (otherChannel c)).phase = true then
    ((s.setPhase c .test).enterTestStep c 1 .hold s.now).reply reqValveTest .started .none [channelByte c]
  else
    ((s.endTest).hand [.serviceExit]).refuse reqValveTest
      (if (chanGet s.slip c).phase = .passive then .badRequest else .braking)

/-- The fault unit's answer taken in ASKING (R194). -/
def State.takeAnswer (s : State) (accepted : Bool) : State :=
  match s.service.test with
  | .asking c => if accepted then s.startTest c else (s.endTest).refuse reqValveTest .busy
  | .none => s
  | .running _ _ _ => s

/-- SERVICE_ANSWER (R194). -/
def execServiceAnswer (accepted : Bool) (s : State) : Host.Outcome State Fault Refusal :=
  .next ((s.take (.serviceAnswer accepted)).takeAnswer accepted)

/-- The end of a test at the expiry of round 3's PASS (R195). -/
def State.finishTest (s : State) (c : Channel) : State :=
  (((s.leaveTest c).endTest).hand [.serviceExit]).reply reqValveTest .done .none [channelByte c]

/-- The next step of a test (R195). -/
def State.nextStep (s : State) (c : Channel) (round : Nat) (x : TestStep) (t : Time) : State :=
  match x with
  | .hold => s.enterTestStep c round .exhaust t
  | .exhaust => s.enterTestStep c round .pass t
  | .pass => if 3 ≤ round then s.finishTest c else s.enterTestStep c (round + 1) .hold t

/-- The step timer expires in RUNNING (R195). -/
def State.takeStepExpiry (s : State) (t : Time) : State :=
  match s.service.test with
  | .running c round x => if timerDue s.service.stepTimer t then s.nextStep c round x t else s
  | .none => s
  | .asking _ => s

/-- STEP_TIMER_EXPIRY (R195). -/
def execStepTimerExpiry (t : Time) (s : State) : Host.Outcome State Fault Refusal :=
  .next ((s.stamp t).takeStepExpiry t)

/-- An abort sets a channel still in TEST to INACTIVE where R196's table gives INACTIVE. -/
def abortFreesChannel (a : AbortEvent) : Bool :=
  match a with
  | .edge _ => true
  | .brakingRise => true
  | .sagEntry => true
  | .channelFault => false
  | .modeChange m => decide (m = .held)

/-- An abort hands SERVICE to ACTIVE but for the notices of a mode change (R196). -/
def abortLeavesService (a : AbortEvent) : Bool :=
  match a with
  | .edge _ => true
  | .brakingRise => true
  | .sagEntry => true
  | .channelFault => true
  | .modeChange _ => false

/-- A running test aborted (R196). -/
def State.abortTest (s : State) (a : AbortEvent) (c : Channel) (round : Nat) (x : TestStep) : State :=
  let s1 := if abortFreesChannel a then s.leaveTest c else s
  let s2 := s1.endTest
  let s3 := if abortLeavesService a then s2.hand [.serviceExit] else s2
  s3.reply reqValveTest .aborted .none [channelByte c, natByte (16 * round + testStepCode x)]

/-- An abort event; only a running test is aborted (R196). -/
def State.takeAbort (s : State) (a : AbortEvent) : State :=
  match s.service.test with
  | .running c round x => s.abortTest a c round x
  | .none => s
  | .asking _ => s

/-- ABORT_EVENT (R196); the notices of a mode change are taken in their turn (R147). -/
def execAbortEvent (a : AbortEvent) (s : State) : Host.Outcome State Fault Refusal :=
  .next (s.takeInTurn (.abortEvent a) fun x => x.takeAbort a)

/-! ## The restart (R193) -/

/-- REPLY_SUCCESS_NOTICE: the restart reply's success causes the pending warm restart (R193, R178). -/
def execReplySuccessNotice (restartReply : Bool) (s : State) : Host.Outcome State Fault Refusal :=
  .next (if restartReply ∧ s.service.restartMark = true then s.warmRestart
    else s.take (.replySuccessNotice restartReply))

/-- RESTART_TIMER_EXPIRY: the warm restart 100 ms after the RESTART (R193, R178). -/
def execRestartTimerExpiry (t : Time) (s : State) : Host.Outcome State Fault Refusal :=
  .next (if timerDue s.service.restartTimer t then s.warmRestart else s.stamp t)

end Sys2Proof.Machine
end

