-- ==== Sys2Proof/Machine/Dispatch.lean ====
section
/-! DEFINITION. The effect of each command on everything but the queue: one arm for each row of spec/opcode_table.json. -/

namespace Sys2Proof.Machine

def exec (i : Instr) (s : State) : Host.Outcome State Fault Refusal :=
  match i with
  | .powerOnReset => Sys2Proof.Machine.execPowerOnReset s
  | .brownOutNotice t => Sys2Proof.Machine.execBrownOutNotice t s
  | .brownOutExpiry t => Sys2Proof.Machine.execBrownOutExpiry t s
  | .brownOutRise t => Sys2Proof.Machine.execBrownOutRise t s
  | .supplySample t value => Sys2Proof.Machine.execSupplySample t value s
  | .startSequence straps => Sys2Proof.Machine.execStartSequence straps s
  | .readCompletion t block => Sys2Proof.Machine.execReadCompletion t block s
  | .listenExpiry t => Sys2Proof.Machine.execListenExpiry t s
  | .startingExpiry t => Sys2Proof.Machine.execStartingExpiry t s
  | .endOfStarting => Sys2Proof.Machine.execEndOfStarting s
  | .toothEdge t side => Sys2Proof.Machine.execToothEdge t side s
  | .windowClose t wires => Sys2Proof.Machine.execWindowClose t wires s
  | .pressureSample t codes => Sys2Proof.Machine.execPressureSample t codes s
  | .samplePeriodChange intoQuiet => Sys2Proof.Machine.execSamplePeriodChange intoQuiet s
  | .missingTimerExpiry t => Sys2Proof.Machine.execMissingTimerExpiry t s
  | .samplePair pair => Sys2Proof.Machine.execSamplePair pair s
  | .statusReceived sender payload => Sys2Proof.Machine.execStatusReceived sender payload s
  | .alertReceived sender payload => Sys2Proof.Machine.execAlertReceived sender payload s
  | .staleExpiry t p => Sys2Proof.Machine.execStaleExpiry t p s
  | .lostExpiry t p => Sys2Proof.Machine.execLostExpiry t p s
  | .lanePhaseCopy ch phase => Sys2Proof.Machine.execLanePhaseCopy ch phase s
  | .referenceUpdate upd => Sys2Proof.Machine.execReferenceUpdate upd s
  | .phaseHandoff ch phase cap => Sys2Proof.Machine.execPhaseHandoff ch phase cap s
  | .capStepHandoff ch cap => Sys2Proof.Machine.execCapStepHandoff ch cap s
  | .modeChangeToDriver mode => Sys2Proof.Machine.execModeChangeToDriver mode s
  | .chamberSample ch pc sensor pd => Sys2Proof.Machine.execChamberSample ch pc sensor pd s
  | .sagEntry => Sys2Proof.Machine.execSagEntry s
  | .testStep ch pattern => Sys2Proof.Machine.execTestStep ch pattern s
  | .overCurrent t ch valve => Sys2Proof.Machine.execOverCurrent t ch valve s
  | .checkTimerExpiry t ch valve milliamps loadFound => Sys2Proof.Machine.execCheckTimerExpiry t ch valve milliamps loadFound s
  | .receiveFrame t bits => Sys2Proof.Machine.execReceiveFrame t bits s
  | .stuckExpiry t => Sys2Proof.Machine.execStuckExpiry t s
  | .transmitStart t => Sys2Proof.Machine.execTransmitStart t s
  | .contentionLoss t bit => Sys2Proof.Machine.execContentionLoss t bit s
  | .transmitError t bit => Sys2Proof.Machine.execTransmitError t bit s
  | .transmitSuccess t => Sys2Proof.Machine.execTransmitSuccess t s
  | .silenceExpiry t => Sys2Proof.Machine.execSilenceExpiry t s
  | .lineIdle t bits => Sys2Proof.Machine.execLineIdle t bits s
  | .reportTimerExpiry t => Sys2Proof.Machine.execReportTimerExpiry t s
  | .quietReportChange intoQuiet => Sys2Proof.Machine.execQuietReportChange intoQuiet s
  | .statusSuccessNotice => Sys2Proof.Machine.execStatusSuccessNotice s
  | .alertHanded kind ch value => Sys2Proof.Machine.execAlertHanded kind ch value s
  | .alertSent => Sys2Proof.Machine.execAlertSent s
  | .alertReturned outcome => Sys2Proof.Machine.execAlertReturned outcome s
  | .faultNotice notice => Sys2Proof.Machine.execFaultNotice notice s
  | .causeCleared cause => Sys2Proof.Machine.execCauseCleared cause s
  | .supplySagNotice => Sys2Proof.Machine.execSupplySagNotice s
  | .quietEntry => Sys2Proof.Machine.execQuietEntry s
  | .quietExit => Sys2Proof.Machine.execQuietExit s
  | .serviceEntry => Sys2Proof.Machine.execServiceEntry s
  | .serviceExit => Sys2Proof.Machine.execServiceExit s
  | .serviceClear => Sys2Proof.Machine.execServiceClear s
  | .millisecondCountTick t => Sys2Proof.Machine.execMillisecondCountTick t s
  | .wakeEvent event => Sys2Proof.Machine.execWakeEvent event s
  | .readRecord req => Sys2Proof.Machine.execReadRecord req s
  | .readStats req => Sys2Proof.Machine.execReadStats req s
  | .clear req => Sys2Proof.Machine.execClear req s
  | .restart req => Sys2Proof.Machine.execRestart req s
  | .valveTest req => Sys2Proof.Machine.execValveTest req s
  | .badRequest kind req => Sys2Proof.Machine.execBadRequest kind req s
  | .serviceAnswer accepted => Sys2Proof.Machine.execServiceAnswer accepted s
  | .stepTimerExpiry t => Sys2Proof.Machine.execStepTimerExpiry t s
  | .abortEvent event => Sys2Proof.Machine.execAbortEvent event s
  | .replySuccessNotice restartReply => Sys2Proof.Machine.execReplySuccessNotice restartReply s
  | .restartTimerExpiry t => Sys2Proof.Machine.execRestartTimerExpiry t s

end Sys2Proof.Machine
end

