-- ==== Sys2Proof/Safety.lean ====
section
/-! DEFINITION. What counts as a safe station: the values every reset leaves, and the laws each block keeps at every
step. -/

namespace Sys2Proof.Machine

/-! ## What a reset leaves -/

/-- The values a power-on reset and a warm restart both leave, from the reset tables R18, R34, R62, R63, R112, R131,
R144, R166, R173, R177, R179 and R188; every periodic timer and the brown-out run are stopped (R34, R173, R178; log entry
3), and so are the link controller's marks (log entries 12, 13 and 27). -/
structure State.ResetValues (t : State) : Prop where
  speed : ∀ i, sideGet t.speed.inputs i =
    { state := .standstill, speed := 0, accel := 0, history := ⟨0, 0, 0, 0⟩, edges := 0, lastEdge := none,
      refEdge := none, startMark := false, jumps := 0, dead := 0 }
  demand : t.pressure.demand = { reading := 0, state := .good, outOfBand := 0 }
  reservoir : t.pressure.reservoir = { reading := 0, state := .good, outOfBand := 0 }
  chambers : ∀ c, chanGet t.pressure.chambers c = { reading := 0, state := .good, outOfBand := 0 }
  pressureFlags : t.pressure.pd = 0 ∧ t.pressure.demandLost = false ∧ t.pressure.braking = false
    ∧ t.pressure.economy = false ∧ t.pressure.lowRun = none ∧ t.pressure.highRun = none
  peers : ∀ p, (quadGet t.view.peers p).state = .empty ∧ (quadGet t.view.peers p).lastSeq = none
    ∧ (quadGet t.view.peers p).demand = none ∧ (quadGet t.view.peers p).reservoir = none
    ∧ ∀ i, sideGet (quadGet t.view.peers p).lanes i = { speed := none, accel := 0, code := .openLane }
  lanes : ∀ p i, sideGet (quadGet t.view.lanes p) i = { speed := none, accel := 0, code := .openLane }
  view : t.view.vref = 0 ∧ t.view.firstWindow = true ∧ t.view.coasting = 0 ∧ t.view.mask = 0
    ∧ t.view.alone = false ∧ t.view.missing = .stopped
  slip : ∀ c, chanGet t.slip c =
    { phase := .inactive, pLock := 0, cap := 0, falseOnset := 0, releaseCount := 0, stepCount := 0, strong := false,
      yawSpent := false, faultWait := false }
  driver : ∀ c, (chanGet t.driver.chans c).phase = .inactive ∧ (chanGet t.driver.chans c).cap = 0
    ∧ (chanGet t.driver.chans c).pattern = .pass ∧ (chanGet t.driver.chans c).testPattern = .pass
    ∧ (chanGet t.driver.chans c).tracking = false ∧ (chanGet t.driver.chans c).integrator = 0
    ∧ (chanGet t.driver.chans c).windUp = false ∧ (chanGet t.driver.chans c).woundUp = false
    ∧ (chanGet t.driver.chans c).dwellStart = none ∧ (chanGet t.driver.chans c).errorRun = none
    ∧ (chanGet t.driver.chans c).warning = false ∧ (chanGet t.driver.chans c).spent = false
  solenoids : ∀ c v, solenoid (chanGet t.driver.chans c) v =
    { on := false, shortLock := false, openCount := 0, openMark := false, timer := none }
  link : t.link.line = .settling 10 0 ∧ t.link.stuck = 0 ∧ t.link.tx = .listen ∧ t.link.silence = none
    ∧ t.link.status = ⟨none, none⟩ ∧ t.link.alert = none ∧ t.link.reply = ⟨none, none⟩ ∧ t.link.consecutive = 0
    ∧ t.link.stats = ⟨0, 0, 0, 0, 0, 0⟩
  linkMarks : t.link.stuckTaken = false ∧ t.link.ownSending = false ∧ t.link.idleSince = none ∧ t.link.awaitIdle = false
  timers : t.speed.window = none ∧ t.pressure.timer = none ∧ t.supply.timer = none ∧ t.fault.milliTimer = none
    ∧ t.supply.brownOut = none
  composer : t.composer.timer = none ∧ t.composer.sent = 0 ∧ t.composer.queue = [] ∧ t.composer.group = []
  fault : t.fault.mode = .starting ∧ t.fault.held = ⟨false, false⟩ ∧ t.fault.millis = 0
  supply : t.supply.state = .normal ∧ t.supply.value = 0 ∧ t.supply.underRun = none ∧ t.supply.recoveryRun = none
    ∧ t.supply.riseRun = none
  quiet : t.standstill = none
  startup : t.startup.stage = .heldInReset ∧ t.startup.position = none ∧ t.startup.arrangement = none
    ∧ t.startup.nominal = none ∧ t.startup.rawBlock = [] ∧ t.startup.params = none ∧ t.startup.configBad = false
    ∧ t.startup.clamped = false ∧ t.startup.constants = none ∧ t.startup.listenTimer = none
    ∧ t.startup.startingTimer = none
  service : t.service = { test := .none, stepTimer := none, restartMark := false, restartTimer := none }

/-- The commands that can reset the part: power-on reset, and those that may carry a warm restart (R172, R178, R193). -/
def isResetCommand (c : Instr) : Bool :=
  match c with
  | .powerOnReset => true
  | .brownOutExpiry _ => true
  | .replySuccessNotice _ => true
  | .restartTimerExpiry _ => true
  | _ => false

/-! ## What a pressure sample does to one sensor -/

/-- One sensor at a pressure sample: an in-band code of a GOOD sensor becomes the reading floor((c − offset) × gain /
256), 0 below the offset and at most 15000; an out-of-band code is dropped, and the fifth in a row fails the sensor; a
FAILED sensor is not read (R20, R21). -/
def sensorSampled (offset gain code : Nat) (x y : Sensor) : Prop :=
  (x.state = .good → 205 ≤ code → code ≤ 3891 →
      y = { reading := min 15000 ((code - offset) * gain / 256), state := .good, outOfBand := 0 })
    ∧ (x.state = .good → code < 205 ∨ 3891 < code → x.outOfBand < 4 → y = { x with outOfBand := x.outOfBand + 1 })
    ∧ (x.state = .good → code < 205 ∨ 3891 < code → x.outOfBand = 4 →
        y = { reading := x.reading, state := .failed, outOfBand := 5 })
    ∧ (x.state = .failed → y = x)

/-! ## The law of the valve driver -/

/-- One solenoid: a short-locked one has no check timer, and the open count stays in 0 to 3 with the open mark set at 3
(R106, R107, R108). -/
def Solenoid.lawful (x : Solenoid) : Prop :=
  (x.shortLock = true → x.timer = none) ∧ x.openCount ≤ 3 ∧ x.openMark = decide (x.openCount = 3)

/-- One channel of the driver: its drives are those of its pattern (R93), the pattern is the one mode and phase name or
tracking sets it (R94, R97), and the integrator keeps its bounds (R99). -/
def DriverChan.lawful (live : Bool) (m : Mode) (c : DriverChan) : Prop :=
  c.inlet.on = inletOn live c.pattern c ∧ c.outlet.on = outletOn live c.pattern c
    ∧ c.inlet.lawful ∧ c.outlet.lawful
    ∧ (∀ p, namedPattern m c.phase c.testPattern = some p → c.pattern = p ∧ c.tracking = false)
    ∧ (namedPattern m c.phase c.testPattern = none → c.tracking = true)
    ∧ integratorMin ≤ c.integrator ∧ c.integrator ≤ integratorMax

/-- The law of the driver. Before the straps are sampled both channels are INACTIVE. -/
def State.DriveLaw (s : State) : Prop :=
  (∀ c, (s.driverChan c).lawful (s.live c) s.driver.mode)
    ∧ (s.startup.stage = .heldInReset → ∀ c, (s.driverChan c).phase = .inactive)

/-! ## The law of the fault unit -/

/-- The held-cause set is empty in ACTIVE, QUIET and SERVICE and holds a cause in HELD (R157, R158, R159). -/
def heldFits (m : Mode) (x : HeldSet) : Prop :=
  match m with
  | .active => x.isEmpty = true
  | .quiet => x.isEmpty = true
  | .service => x.isEmpty = true
  | .held => x.isEmpty = false
  | .starting => True
  | .passive => True
  | .latched => True

/-- The law of the fault unit: in PASSIVE and LATCHED every channel is PASSIVE (R154); in LATCHED a record carries its
latch flag (R161, R162); the record's cause is in the cause-seen set (R163); the held-cause set fits the mode; and the
millisecond count stays in its 32 bits (R160). -/
structure State.FaultLaw (s : State) : Prop where
  gaveUp : s.fault.mode = .passive ∨ s.fault.mode = .latched → s.slip.ch1.phase = .passive ∧ s.slip.ch2.phase = .passive
  latched : s.fault.mode = .latched → ∀ r, s.fault.record = some r → r.latch = true
  recordSeen : ∀ r, s.fault.record = some r → s.fault.seen.getLsbD (causeCode r.cause - 1) = true
  held : heldFits s.fault.mode s.fault.held
  millis : s.fault.millis ≤ 4294967295 ∧ ∀ r, s.fault.record = some r → r.time ≤ 4294967295

/-! ## The law of the link and the report composer -/

/-- No two alerts of a list are of the same kind and the same channel (R140). -/
abbrev alertsDistinct (q : List Alert) : Prop := q.Pairwise fun a b => sameEvent a b = false

/-- How many frames of the station are in flight. -/
def State.framesInFlight (s : State) : Nat :=
  s.link.status.inFlight.toList.length + s.link.alert.toList.length + s.link.reply.inFlight.toList.length

/-- The law of the link controller and the report composer: at most 4 alerts wait and at most 4 are in flight, none twice
(R140, R141, R143); at most one frame is in flight, and none unless the transmitter is ENABLED (R119, R126); the
consecutive count stays in 0 to 8 and is 8 in SILENT (R123, R126); the stuck timer and the statistics keep their ranges
(R114, R129). -/
structure State.LinkLaw (s : State) : Prop where
  queue : s.composer.queue.length ≤ 4 ∧ alertsDistinct s.composer.queue
  group : s.composer.group.length ≤ 4 ∧ alertsDistinct s.composer.group
  inFlight : s.framesInFlight ≤ 1
  quietTransmitter : s.link.tx ≠ .enabled → s.framesInFlight = 0
  consecutive : s.link.consecutive ≤ 8
  silent : s.link.tx = .silent → s.link.consecutive = 8
  stuck : s.link.stuck ≤ 10000
  stats : s.link.stats.receiveErrors ≤ 65535 ∧ s.link.stats.foreignFrames ≤ 65535
    ∧ s.link.stats.transmitErrors ≤ 65535 ∧ s.link.stats.alertDrops ≤ 65535 ∧ s.link.stats.duplicates ≤ 65535
    ∧ s.link.stats.gaps ≤ 65535

/-! ## The law of the speed unit -/

/-- A history inside the speed range (R12). -/
def History.inRange (h : History) : Prop := h.h0 ≤ 16383 ∧ h.h1 ≤ 16383 ∧ h.h2 ≤ 16383 ∧ h.h3 ≤ 16383

/-- One input's law: its ranges (01, state table); speed 0 unless RUNNING, and accel 0 and no history in FAILED (R3, R12);
no edge and no reference edge in STANDSTILL (R5, R6, R9); a last edge exactly when the window holds edges (R1); a
reference edge in RUNNING and in STARTING after its start window, which itself holds an edge (R6, R7); and no further
jump or dead count once either reaches its limit outside FAILED (R11, R14). -/
structure SpeedInput.Lawful (i : SpeedInput) : Prop where
  speed : i.speed ≤ 16383
  accel : -16383 ≤ i.accel ∧ i.accel ≤ 16383
  history : i.history.inRange
  edges : i.edges ≤ 255
  still : i.state ≠ .running → i.speed = 0
  failed : i.state = .failed → i.accel = 0 ∧ i.history = ⟨0, 0, 0, 0⟩
  standstill : i.state = .standstill → i.edges = 0 ∧ i.refEdge = none
  lastEdge : i.lastEdge.isSome = true ↔ 0 < i.edges
  refEdge : i.state = .running ∨ (i.state = .starting ∧ i.startMark = false) → i.refEdge.isSome = true
  startWindow : i.startMark = true → 0 < i.edges
  jumps : i.jumps ≤ 3 ∧ (i.state ≠ .failed → i.jumps ≤ 2)
  dead : i.dead ≤ 400 ∧ (i.state ≠ .failed → i.dead ≤ 399)

/-- The law of the speed unit. -/
def State.SpeedLaw (s : State) : Prop := ∀ i, (sideGet s.speed.inputs i).Lawful

/-! ## The range law: parameters, pressure unit, view unit, channel records -/

/-- A value stands in a range. -/
abbrev within (lo hi v : Nat) : Prop := lo ≤ v ∧ v ≤ hi

/-- Four sensor values stand in a range. -/
def PerSensor.inRange (lo hi : Nat) (x : PerSensor) : Prop :=
  within lo hi x.demand ∧ within lo hi x.chamber1 ∧ within lo hi x.chamber2 ∧ within lo hi x.reservoir

/-- The ranges of 10, section 10.3, with the order of the three parameters that have a partner (R183). -/
structure Params.InRange (p : Params) : Prop where
  stations : within 2 4 p.stations
  teeth : within 40 120 p.teeth
  circ : within 2000 4000 p.circLeft ∧ within 2000 4000 p.circRight
  jumpLimit : within 64 400 p.jumpLimit
  ramps : within 2 24 p.dramp ∧ within 1 8 p.aramp
  tolerance : within 32 512 p.tolerance
  slip : within 32 512 p.slipAbs ∧ within 0 64 p.slipRel
  a1 : within 10 200 p.a1
  a2 : within 5 150 p.a2 ∧ p.a2 < p.a3
  a3 : within 20 300 p.a3
  vEntry : within 256 1280 p.vEntry
  vMin : 192 ≤ p.vMin ∧ p.vMin + 64 ≤ p.vEntry
  pOn : within 100 1000 p.pOn
  pOff : 50 ≤ p.pOff ∧ p.pOff + 50 ≤ p.pOn
  deltaP : within 50 1000 p.deltaP
  stepPeriod : within 4 40 p.stepPeriod
  tRelMax : within 40 200 p.tRelMax
  yaw : within 0 3000 p.yawMargin ∧ within 5 200 p.yawStep
  pEcon : within 3000 8000 p.pEcon
  gains : within 0 255 p.kp ∧ within 0 255 p.ki
  uOn : within 1 65535 p.uOn
  offsets : p.offsets.inRange 0 1023
  sensorGains : p.gains.inRange 64 1023

/-- One pressure input: its reading and out-of-band count in range, and FAILED once the count reaches 5 (R20, R21). -/
def Sensor.inRange (x : Sensor) : Prop := x.reading ≤ 15000 ∧ x.outOfBand ≤ 5 ∧ (x.state = .good → x.outOfBand ≤ 4)

/-- A lane's speed and accel in range, the accel within `bound` either way (R35, R50). -/
def Lane.inRange (bound : Int) (x : Lane) : Prop := (∀ v, x.speed = some v → v ≤ 16383) ∧ -bound ≤ x.accel ∧ x.accel ≤ bound

/-- One entry of the peer table: its ranges; a last sequence and an acceptance time while FRESH or STALE; and the law of
R35, every lane of a LOST or EMPTY entry absent, with the pressures (R42). -/
structure PeerEntry.Lawful (e : PeerEntry) : Prop where
  vref : e.vref ≤ 16383
  pressures : (∀ v, e.demand = some v → v ≤ 150) ∧ ∀ v, e.reservoir = some v → v ≤ 150
  lanes : ∀ i, (sideGet e.lanes i).inRange 128
  heard : e.state = .fresh ∨ e.state = .stale → e.lastSeq.isSome = true ∧ e.accepted.isSome = true
  gone : e.state = .empty ∨ e.state = .lost →
    e.demand = none ∧ e.reservoir = none ∧ ∀ i, (sideGet e.lanes i).speed = none

/-- One channel record: P_lock, the cap and the counts in range (R63), with what keeps them there: a tracked cap below the
highest Pd, and a RELEASE whose overrun has not come (R78, R82, R85). -/
structure ChannelRec.Lawful (q : Params) (r : ChannelRec) : Prop where
  pLock : r.pLock ≤ 15000
  cap : r.cap ≤ 16000 ∧ (isTracked r.phase = true → r.cap ≤ 15000)
  falseOnset : r.falseOnset ≤ 3
  releaseCount : r.releaseCount ≤ q.tRelMax ∧ (r.phase = .release → r.releaseCount < q.tRelMax)
  stepCount : r.stepCount ≤ q.stepPeriod

/-- The range law. No entry of the peer table stands for the own position or for a position not below S, nor any before
the view unit runs; and no channel has counted anything or stands in RELEASE before then (R35, R63, R184). -/
structure State.RangeLaw (s : State) : Prop where
  params : ∀ q, s.startup.params = some q → q.InRange
  sensors : s.pressure.demand.inRange ∧ s.pressure.reservoir.inRange ∧ ∀ c, (chanGet s.pressure.chambers c).inRange
  pd : s.pressure.pd ≤ 15000
  peers : ∀ p, (quadGet s.view.peers p).Lawful
  noEntry : ∀ p : Position, s.unitsOn = false ∨ p = s.position ∨ s.params.stations ≤ p.val →
    (quadGet s.view.peers p).state = .empty
  vector : ∀ p i, (sideGet (quadGet s.view.lanes p) i).inRange 16383
  vref : s.view.vref ≤ 16383 ∧ s.view.coasting ≤ 255
  channels : ∀ c, (chanGet s.slip c).Lawful s.params
  notStarted : s.unitsOn = false → ∀ c, (chanGet s.slip c).falseOnset = 0 ∧ (chanGet s.slip c).releaseCount = 0
    ∧ (chanGet s.slip c).stepCount = 0 ∧ (chanGet s.slip c).phase ≠ .release

/-! ## The alone flag -/

/-- What R49 asks of a set alone flag: every expected entry is LOST, or EMPTY with the missing timer expired. -/
def State.AloneRule (s : State) : Prop :=
  ∀ p : Position, p.val < s.params.stations → p ≠ s.position →
    (quadGet s.view.peers p).state = .lost ∨ ((quadGet s.view.peers p).state = .empty ∧ s.view.missing = .expired)

end Sys2Proof.Machine
end

