-- ==== Sys2Proof/WellFormed.lean ====
section
/-! DEFINITION. The well-formed commands: operands inside the ranges the spec states for them. -/

namespace Sys2Proof

/-- A wheel sample inside R3's ranges: speed 0 to 16383 and 0 unless RUNNING, accel -16383 to 16383. -/
def Sample.wf (x : Sample) : Bool :=
  decide (x.speed ≤ 16383) && decide (-16383 ≤ x.accel) && decide (x.accel ≤ 16383)
    && (decide (x.state = .running) || decide (x.speed = 0))

/-- A sample pair with both samples in range. -/
def samplePairWf (p : Sides Sample) : Bool := p.left.wf && p.right.wf

/-- A reference update inside R61's ranges. -/
def RefUpdate.wf (u : RefUpdate) : Bool := decide (u.vref ≤ 16383) && samplePairWf u.samples

/-- The speed carried with a wake event is a speed (R176). -/
def WakeEvent.wf : WakeEvent → Bool
  | .acceptance _ v => decide (v ≤ 16383)
  | .reference v => decide (v ≤ 16383)
  | _ => true

/-- A test-abort notice of a mode change names HELD, PASSIVE or LATCHED (R147). -/
def AbortEvent.wf : AbortEvent → Bool
  | .modeChange m => decide (m = .held) || decide (m = .passive) || decide (m = .latched)
  | _ => true

/-- The payload length of a frame is 0 to 14 (R115). -/
def payloadWf (p : List Byte) : Bool := decide (p.length ≤ 14)

/-- A service request's length is a payload length (R115). -/
def ServiceReq.wf (r : ServiceReq) : Bool := decide (r.length ≤ 14)

/-- The number of payload bytes that the four length bits of a frame announce (bits 9 to 12 after the start bit). -/
def announcedLength (bits : List Bit) : Nat :=
  ((bits.drop 9).take 4).foldl (fun n b => 2 * n + b.toNat) 0

/-- A frame as the receive side frames it: it begins with a dominant bit, and it is 36 + 8L bits long, or ends at an
invalid length of 15 (R113, R115). -/
def frameBitsWf (bits : List Bit) : Bool :=
  decide (bits.head? = some false) &&
    (decide (announcedLength bits = 15 ∧ bits.length = 13)
      || decide (announcedLength bits < 15 ∧ bits.length = 36 + 8 * announcedLength bits))

/-- Lane alerts name a channel and module alerts name none; a lock pressure is at most 15000 and any other value is one
byte (R139). -/
def alertWf (k : AlertKind) (ch : Option Channel) (v : Nat) : Bool :=
  match k with
  | .lockOnset => ch.isSome && decide (v ≤ 15000)
  | .cycleEnd => ch.isSome && decide (v ≤ 255)
  | .channelPassive => ch.isSome && decide (v ≤ 255)
  | _ => ch.isNone && decide (v ≤ 255)

/-- The operands of a command are inside their ranges. -/
def Instr.wf : Instr → Bool
  | .readCompletion _ block => decide (block.length = 64)
  | .samplePair pair => samplePairWf pair
  | .statusReceived _ p => payloadWf p
  | .alertReceived _ p => payloadWf p
  | .referenceUpdate u => u.wf
  | .phaseHandoff _ _ cap => decide (cap ≤ 16000)
  | .capStepHandoff _ cap => decide (cap ≤ 16000)
  | .chamberSample _ pc _ pd => decide (pc ≤ 15000) && decide (pd ≤ 15000)
  | .receiveFrame _ bits => frameBitsWf bits
  | .alertHanded k ch v => alertWf k ch v
  | .wakeEvent w => w.wf
  | .readRecord r => r.wf
  | .readStats r => r.wf
  | .clear r => r.wf
  | .restart r => r.wf
  | .valveTest r => r.wf
  | .badRequest _ r => r.wf
  | .abortEvent a => a.wf
  | .powerOnReset => true
  | .brownOutNotice _ => true
  | .brownOutExpiry _ => true
  | .brownOutRise _ => true
  | .supplySample _ _ => true
  | .startSequence _ => true
  | .listenExpiry _ => true
  | .startingExpiry _ => true
  | .endOfStarting => true
  | .toothEdge _ _ => true
  | .windowClose _ _ => true
  | .pressureSample _ _ => true
  | .samplePeriodChange _ => true
  | .missingTimerExpiry _ => true
  | .staleExpiry _ _ => true
  | .lostExpiry _ _ => true
  | .lanePhaseCopy _ _ => true
  | .modeChangeToDriver _ => true
  | .sagEntry => true
  | .testStep _ _ => true
  | .overCurrent _ _ _ => true
  | .checkTimerExpiry _ _ _ _ _ => true
  | .stuckExpiry _ => true
  | .transmitStart _ => true
  | .contentionLoss _ _ => true
  | .transmitError _ _ => true
  | .transmitSuccess _ => true
  | .silenceExpiry _ => true
  | .lineIdle _ _ => true
  | .reportTimerExpiry _ => true
  | .quietReportChange _ => true
  | .statusSuccessNotice => true
  | .alertSent => true
  | .alertReturned _ => true
  | .faultNotice _ => true
  | .causeCleared _ => true
  | .supplySagNotice => true
  | .quietEntry => true
  | .quietExit => true
  | .serviceEntry => true
  | .serviceExit => true
  | .serviceClear => true
  | .millisecondCountTick _ => true
  | .serviceAnswer _ => true
  | .stepTimerExpiry _ => true
  | .replySuccessNotice _ => true
  | .restartTimerExpiry _ => true

end Sys2Proof
end

