-- ==== Sys2Proof/Certificates/Slice0/Obligations.lean ====
section
/-! DEFINITION. The statements for the provers. Each says what a numbered rule of spec/ says of a command: the next
state, and with it everything the command leaves as it was. In all of them a handed command leaves the list `handed` as
it is taken (log entry 1), and a command whose timer is not due is void (log entry 7): both are the model's choices. -/

section

open Sys2Proof Sys2Proof.Machine

/-! ## The machine -/

/-- A step takes the command at the front of the queue, whole, with the rest of the queue (95). -/
def Obligations.StepRunsFrontCommand : Prop :=
  ∀ (c : Instr) (rest : List Instr) (s : State),
    step { s with pending := c :: rest } = exec c { s with pending := rest }

/-- No command touches the queue of commands or ends in anything but a next state (95; log entries 2 and 7). -/
def Obligations.CommandsCompleteAndKeepQueue : Prop :=
  ∀ (c : Instr) (s : State), ∃ t, exec c s = .next t ∧ t.pending = s.pending

/-! ## Laws every step keeps -/

/-- Every step keeps the law of the valve driver: the drives of each channel are those of its pattern, the outlet never on
without the inlet, a short-locked solenoid off with its timer stopped; the pattern is the one that mode and phase name, or
tracking sets it; and the integrator keeps its bounds (R93, R94, R97, R99, R106, R107, R108). -/
def Obligations.StepKeepsDriveLaw : Prop :=
  ∀ s t : State, s.DriveLaw → step s = .next t → t.DriveLaw

/-- Every step keeps the law of the fault unit: every channel PASSIVE in PASSIVE and LATCHED, the latch flag of a record
in LATCHED, the record's cause in the cause-seen set, the held-cause set as the mode has it (R145, R154, R157, R158, R161,
R162, R163). -/
def Obligations.StepKeepsFaultLaw : Prop :=
  ∀ s t : State, s.FaultLaw → step s = .next t → t.FaultLaw

/-- Every step keeps the law of the link controller and report composer: the bounds of the alert queue and group, none of
their alerts twice, at most one frame in flight and none unless the transmitter is ENABLED, the consecutive count and the
statistics in range (R119, R123, R125, R129, R140, R141, R143). -/
def Obligations.StepKeepsLinkLaw : Prop :=
  ∀ s t : State, s.LinkLaw → step s = .next t → t.LinkLaw

/-- Every step keeps the law of the two speed inputs: the ranges of their speeds, histories and counts, speed 0 unless
RUNNING, and a reference edge wherever a rule measures from one (R1, R3, R5 to R15). -/
def Obligations.StepKeepsSpeedLaw : Prop :=
  ∀ s t : State, s.SpeedLaw → step s = .next t → t.SpeedLaw

/-- Every step keeps the range law, where the command at the front of the queue is well-formed: the parameters in their
ranges (R183), the readings and Pd, the peer table (no entry for the own position or one not below S, and every lane of a
LOST or EMPTY entry absent), the wheel vector, vref and the coasting count, and the channel records (R20, R21, R24, R35,
R42, R50, R53, R63, R82, R85). -/
def Obligations.StepKeepsRangeLaw : Prop :=
  ∀ s t : State, (∀ c, s.pending.head? = some c → c.wf = true) → s.RangeLaw → step s = .next t → t.RangeLaw

/-- The reset state keeps all five laws. -/
def Obligations.ResetKeepsLaws : Prop :=
  State.reset.DriveLaw ∧ State.reset.FaultLaw ∧ State.reset.LinkLaw ∧ State.reset.SpeedLaw ∧ State.reset.RangeLaw

/-! ## What only some commands may change -/

/-- What has given up stays so until a reset: no other command moves the phase of a PASSIVE channel (R88: "The channel
stays PASSIVE until the next start"), brings back a FAILED input (R15) or clears a short lock (R106). -/
def Obligations.GivenUpStaysGivenUp : Prop :=
  ∀ (c : Instr) (s t : State), isResetCommand c = false → exec c s = .next t →
    (∀ ch, (chanGet s.slip ch).phase = .passive → (chanGet t.slip ch).phase = .passive)
      ∧ (∀ i, (sideGet s.speed.inputs i).state = .failed → (sideGet t.speed.inputs i).state = .failed)
      ∧ ∀ ch v, (solenoid (chanGet s.driver.chans ch) v).shortLock = true →
        (solenoid (chanGet t.driver.chans ch) v).shortLock = true

/-- The fault memory loses nothing but by a service CLEAR or a power-on reset, warm restarts included: the record keeps
its fields and may only gain its latch flag, the cause-seen set only grows, the supply event flag stays set (R161, R162,
R163, R164). -/
def Obligations.FaultMemoryIsKept : Prop :=
  ∀ (c : Instr) (s t : State), c ≠ .powerOnReset → c ≠ .serviceClear → exec c s = .next t →
    (∀ r, s.fault.record = some r → t.fault.record = some r ∨ t.fault.record = some { r with latch := true })
      ∧ (∀ k, s.fault.seen.getLsbD k = true → t.fault.seen.getLsbD k = true)
      ∧ (s.fault.supplyEvent = true → t.fault.supplyEvent = true)

/-- Only a reset, and the commands by which R146, R148, R158 and R185 change it, change the module mode. -/
def Obligations.ModeChangesOnlyByItsCommands : Prop :=
  ∀ (c : Instr) (s t : State), isResetCommand c = false → exec c s = .next t → t.fault.mode ≠ s.fault.mode →
    (∃ n, c = .faultNotice n) ∨ (∃ r, c = .causeCleared r) ∨ c = .endOfStarting ∨ (∃ m, c = .listenExpiry m)
      ∨ c = .quietEntry ∨ c = .quietExit ∨ c = .serviceEntry ∨ c = .serviceExit

/-- Hand-offs whose order a rule fixes are taken in that order: one channel's phase and cap by the driver, its phase by
the view unit (R86), each change of mode by each block (R147), the alerts of one event of the fault unit by the composer
(R155). The last clause puts all alerts of the fault unit in one order, also those of two different events: that is the
model's choice (log entry 1), as R155 orders only the alerts of one event. One that is not the oldest of its order changes
nothing, and stays handed (log entry 1). -/
def Obligations.HandOffsKeepTheirOrder : Prop :=
  (∀ (c d : Instr) (k : HandOffOrder) (s : State), handOffOrder c = some k →
    s.handed.find? (fun x => decide (handOffOrder x = some k)) = some d → d ≠ c → exec c s = .next s)
    ∧ (∀ ch p cap, handOffOrder (.phaseHandoff ch p cap) = some (.driverPhase ch)
      ∧ handOffOrder (.capStepHandoff ch cap) = some (.driverPhase ch)
      ∧ handOffOrder (.lanePhaseCopy ch p) = some (.viewPhase ch))
    ∧ (∀ m into, handOffOrder (.modeChangeToDriver m) = some .driverMode
      ∧ handOffOrder (.samplePeriodChange into) = some .samplePeriod
      ∧ handOffOrder (.quietReportChange into) = some .quietReport
      ∧ handOffOrder (.abortEvent (.modeChange m)) = some .testAbort)
    ∧ ∀ k ch v, k ≠ .lockOnset → k ≠ .cycleEnd → handOffOrder (.alertHanded k ch v) = some .faultAlert

/-! ## Resets -/

/-- A power-on reset leaves every block at its reset value and the fault memory empty, as the state after reset has
them; every timer is stopped, and handed events are abandoned (log entry 17); only the queue and the model's count of
free values stay (R18, R34, R62, R63, R112, R131, R144, R166, R173, R177 to R179, R188; log entries 2, 3, 12, 13 and 27
for the model's own marks). -/
def Obligations.PowerOnResetLeavesResetValues : Prop :=
  (∀ s : State, ∃ t, exec .powerOnReset s = .next t ∧ t.ResetValues ∧ t.fault.record = none ∧ t.fault.seen = 0
      ∧ t.fault.supplyEvent = false ∧ t.handed = [] ∧ t.pending = s.pending
      ∧ t.freeIndex = s.freeIndex)
    ∧ State.reset.ResetValues ∧ State.reset.fault.record = none ∧ State.reset.fault.seen = 0
    ∧ State.reset.fault.supplyEvent = false

/-- A warm restart comes at the brown-out expiry, at the success of the restart reply and at the restart timer's expiry.
It leaves every block at its reset value and keeps the first-fault record with its latch flag, the cause-seen set and
the supply event flag (R166, R172, R178, R193). The queue and the count of free values stay (log entry 2), events handed
and not taken are abandoned (log entry 17), and a notice of SAG still outstanding sets the flag first (log entry 8). The
success of any other reply, and one without the restart mark, restarts nothing; an expiry of either timer that is not
due is void (log entry 7). -/
def Obligations.WarmRestartKeepsFaultMemory : Prop :=
  (∀ (c : Instr) (s : State),
    ((∃ m, c = .restartTimerExpiry m ∧ timerDue s.service.restartTimer m = true)
        ∨ (c = .replySuccessNotice true ∧ s.service.restartMark = true)
        ∨ (∃ m, c = .brownOutExpiry m ∧ timerDue s.supply.brownOut m = true
            ∧ s.handed.contains .supplySagNotice = false)) →
      ∃ t, exec c s = .next t ∧ t.ResetValues ∧ t.fault.record = s.fault.record ∧ t.fault.seen = s.fault.seen
        ∧ t.fault.supplyEvent = s.fault.supplyEvent ∧ t.handed = [] ∧ t.pending = s.pending
        ∧ t.freeIndex = s.freeIndex)
    ∧ (∀ (m : Time) (s : State), timerDue s.supply.brownOut m = true → s.handed.contains .supplySagNotice = true →
      ∃ t, exec (.brownOutExpiry m) s = .next t ∧ t.ResetValues ∧ t.fault.record = s.fault.record
        ∧ t.fault.seen = s.fault.seen ∧ t.fault.supplyEvent = true)
    ∧ (∀ (restartReply : Bool) (s : State), restartReply = false ∨ s.service.restartMark = false →
      exec (.replySuccessNotice restartReply) s = .next { s with handed := s.handed.erase (.replySuccessNotice restartReply) })
    ∧ ∀ (m : Time) (s : State),
      (timerDue s.service.restartTimer m = false → exec (.restartTimerExpiry m) s = .next { s with now := m })
      ∧ (timerDue s.supply.brownOut m = false → exec (.brownOutExpiry m) s = .next { s with now := m })

/-! ## Supply -/

/-- A supply sample keeps its value, saturating at 4095, and changes the supply state by R167 to R170, with the
hand-offs of R171: the first reading below the SAG threshold enters SAG; an under run of 50 ms enters UNDER; a recovery
run of 100 ms returns to NORMAL; a rise run of 200 ms leaves UNDER for NORMAL or SAG by the recovery run. The
low-voltage notice is a supply sample below every threshold, whatever value then stands: from NORMAL with no under run
it enters SAG, its under run begins, and the 1 ms of the brown-out begins. The value that stands is free, below 6.00 V
(log entry 4). A rise to 6.00 V before the 1 ms has run ends the brown-out run, and no restart follows (R167 to R172).
Sample and notice are stated whole, in every supply state and with runs of any age: the runs are updated first, their
ages settle the state, a run that the new state does not keep is absent, and the change is handed on. The next sample is
due one period after the moment this one was due (R168; log entry 24); a sample that is not due or comes before the
straps, and a rise once the 1 ms has run, are void (log entry 7). A notice while the supply already stands below 6.00 V
is no first fall. Before the start sequence a notice begins the under run and the 1 ms at the time its command carries:
the model's choice, log entry 28. -/
def Obligations.SupplyReadingsMoveState : Prop :=
  (∀ (m : Time) (value : Nat) (s : State) (n : Nominal) (w : Timer) (sag recovery under underExit : Nat),
    s.startup.nominal = some n → s.supply.timer = some w → w.period ≤ (m - w.setAt).toNat →
    ((n = .v24 ∧ sag = 2000 ∧ recovery = 2100 ∧ under = 1600 ∧ underExit = 1800)
      ∨ (n = .v12 ∧ sag = 1000 ∧ recovery = 1050 ∧ under = 800 ∧ underExit = 900)) →
    ∃ t, exec (.supplySample m value) s = .next t
      ∧ t = { s with now := m, supply := t.supply, handed := t.handed }
      ∧ t.supply.value = min 4095 value ∧ t.supply.timer = some { w with setAt := w.setAt + BitVec.ofNat 32 w.period }
      ∧ (s.supply.state = .normal → s.supply.underRun = none → sag ≤ min 4095 value →
          t.supply.state = .normal ∧ t.handed = s.handed)
      ∧ (s.supply.state = .normal → s.supply.underRun = none → value < sag →
          t.supply.state = .sag ∧ t.handed = s.handed ++ [.supplySagNotice, .sagEntry, .abortEvent .sagEntry]
            ∧ t.supply.underRun = if value < under then some m else none)
      ∧ (∀ t0, s.supply.state = .sag → s.supply.underRun = some t0 → value < under → 50000 ≤ (m - t0).toNat →
          t.supply.state = .under ∧ t.supply.underRun = none ∧ t.supply.riseRun = none
            ∧ t.handed = s.handed ++ [.faultNotice (.reversible .supplyUnder)])
      ∧ (∀ t0, s.supply.state = .sag → s.supply.recoveryRun = some t0 → recovery ≤ min 4095 value →
          100000 ≤ (m - t0).toNat → t.supply.state = .normal ∧ t.supply.recoveryRun = none ∧ t.handed = s.handed)
      ∧ (s.supply.state = .sag → s.supply.underRun = none → s.supply.recoveryRun = none →
          t.supply.state = .sag ∧ t.handed = s.handed)
      ∧ (∀ t0 t1, s.supply.state = .under → s.supply.riseRun = some t0 → underExit ≤ min 4095 value →
          200000 ≤ (m - t0).toNat → s.supply.recoveryRun = some t1 → recovery ≤ min 4095 value →
          100000 ≤ (m - t1).toNat →
          t.supply.state = .normal ∧ t.handed = s.handed ++ [.causeCleared .supplyUnder])
      ∧ (∀ t0, s.supply.state = .under → s.supply.riseRun = some t0 → underExit ≤ min 4095 value →
          200000 ≤ (m - t0).toNat → s.supply.recoveryRun = none →
          t.supply.state = .sag ∧ t.supply.riseRun = none
            ∧ t.handed = s.handed ++ [.causeCleared .supplyUnder, .supplySagNotice, .sagEntry, .abortEvent .sagEntry])
      ∧ (s.supply.state = .under → value < underExit →
          t.supply.state = .under ∧ t.supply.riseRun = none ∧ t.handed = s.handed)
      ∧ (∀ (v : Nat) (u r e : Option Time) (y : SupplyState), v = min 4095 value →
          u = (if s.supply.state ≠ .under ∧ v < under then some (s.supply.underRun.getD m) else none) →
          r = (if s.supply.state ≠ .normal ∧ recovery ≤ v then some (s.supply.recoveryRun.getD m) else none) →
          e = (if s.supply.state = .under ∧ underExit ≤ v then some (s.supply.riseRun.getD m) else none) →
          y = (if s.supply.state = .under then
                if 200000 ≤ (m - e.getD m).toNat then (if 100000 ≤ (m - r.getD m).toNat then .normal else .sag)
                else .under
              else if 50000 ≤ (m - u.getD m).toNat then .under
              else if s.supply.state = .normal then (if v < sag then .sag else .normal)
              else if 100000 ≤ (m - r.getD m).toNat then .normal else .sag) →
          t.supply = { s.supply with
            state := y, value := v, underRun := if y = .under then none else u,
            recoveryRun := if y = .normal then none else r, riseRun := if y = .under then e else none,
            timer := some { w with setAt := w.setAt + BitVec.ofNat 32 w.period } }
          ∧ t.handed = s.handed ++ (if s.supply.state = .under ∧ y ≠ .under then [.causeCleared .supplyUnder] else [])
              ++ (if s.supply.state ≠ .sag ∧ y = .sag then [.supplySagNotice, .sagEntry, .abortEvent .sagEntry] else [])
              ++ (if s.supply.state ≠ .under ∧ y = .under then [Instr.faultNotice (.reversible .supplyUnder)] else [])))
    ∧ ((∀ (m : Time) (s : State), s.supply.brownOut = none → s.supply.state = .normal → s.supply.underRun = none →
    ∃ v, v < 600 ∧ exec (.brownOutNotice m) s = .next
      { s with
        now := m
        freeIndex := s.freeIndex + 1
        supply := { s.supply with state := .sag, value := v, underRun := some m, recoveryRun := none, riseRun := none,
                                  brownOut := some ⟨m, 1000⟩ }
        handed := s.handed ++ [.supplySagNotice, .sagEntry, .abortEvent .sagEntry] })
    ∧ (∀ (m : Time) (u : Option Time) (y : SupplyState) (s : State), s.supply.brownOut = none →
    u = (if s.supply.state = .under then none else some (s.supply.underRun.getD m)) →
    y = (if s.supply.state = .under ∨ 50000 ≤ (m - u.getD m).toNat then .under else .sag) →
    ∃ v, v < 600 ∧ exec (.brownOutNotice m) s = .next
      { s with
        now := m
        freeIndex := s.freeIndex + 1
        supply := { s.supply with
          state := y, value := v, underRun := if y = .under then none else u, recoveryRun := none, riseRun := none,
          brownOut := some ⟨m, 1000⟩ }
        handed := s.handed
          ++ (if s.supply.state = .normal ∧ y = .sag then [.supplySagNotice, .sagEntry, .abortEvent .sagEntry] else [])
          ++ (if s.supply.state ≠ .under ∧ y = .under then [Instr.faultNotice (.reversible .supplyUnder)] else []) })
    ∧ (∀ (m : Time) (s : State), s.supply.brownOut ≠ none → exec (.brownOutNotice m) s = .next { s with now := m })
    ∧ (∀ (m : Time) (s : State), timerDue s.supply.brownOut m = false →
      exec (.brownOutRise m) s = .next { s with now := m, supply := { s.supply with brownOut := none } })
    ∧ (∀ (m : Time) (s : State), timerDue s.supply.brownOut m = true → exec (.brownOutRise m) s = .next { s with now := m })
    ∧ ∀ (m : Time) (value : Nat) (s : State), s.startup.nominal = none ∨ timerDue s.supply.timer m = false →
      exec (.supplySample m value) s = .next { s with now := m })

/-! ## Start -/

/-- The start sequence samples the straps once, starts the supply monitor and the millisecond count and begins the read;
module time is 0 at it (R178, R180). An under run and a brown-out run begun before it stand through it: the model's
choice, log entry 28. The read completion judges the block and starts the units (R4, R182, R184, R187): a block of
another version or with a wrong check, or a position not below the settled station count, gives the built-in defaults,
the config-bad mark and K 9,043,200 on both sides; any other gives the settled parameters and K = floor(230400 × C / N).
The stored parameters stand in the block at the bytes of section 12.5, each most significant byte first, the spare bits
of byte 2 not read. The check timers of the solenoids the arrangement uses start at 10,000 µs, that of a short-locked
one staying stopped (R112; log entry 25). Either command at another stage is void (log entry 7). -/
def Obligations.StartSequenceAndReadCompletion : Prop :=
  (∀ (x : Straps) (p : Position) (s : State), s.startup.stage = .heldInReset →
    p.val = 2 * x.pos1.toNat + x.pos0.toNat →
    exec (.startSequence x) s = .next
      { s with
        now := 0
        startup := { s.startup with
          stage := .reading, position := some p, arrangement := some (if x.arr then .joined else .split),
          nominal := some (if x.nom then .v24 else .v12) }
        supply := { s.supply with timer := some ⟨0, 1000⟩ }
        fault := { s.fault with milliTimer := some ⟨0, 1000⟩ } })
    ∧ (∀ (m : Time) (x : Straps) (bs : List Byte) (s : State),
      (s.startup.stage ≠ .heldInReset → exec (.startSequence x) s = .next s)
      ∧ (s.startup.stage ≠ .reading → exec (.readCompletion m bs) s = .next { s with now := m }))
    ∧ (∀ (m : Time) (bs : List Byte) (p : Position) (s : State), s.startup.stage = .reading → s.startup.position = some p →
    ∃ t, exec (.readCompletion m bs) s = .next t
      ∧ t = { s with now := m, startup := t.startup, speed := { s.speed with window := some ⟨m, 5000⟩ },
                     pressure := { s.pressure with timer := some ⟨m, 1000⟩ }, driver := t.driver }
      ∧ t.startup.stage = .listening ∧ t.startup.rawBlock = bs ∧ t.startup.listenTimer = some ⟨m, 50000⟩
      ∧ t.driver.mode = s.driver.mode
      ∧ (∀ ch d, d = chanGet s.driver.chans ch → s.arrangement = .split ∨ ch = .ch1 → chanGet t.driver.chans ch = { d with
          inlet := { d.inlet with timer := if d.inlet.shortLock then none else some ⟨m, 10000⟩ }
          outlet := { d.outlet with timer := if d.outlet.shortLock then none else some ⟨m, 10000⟩ } })
      ∧ (s.arrangement = .joined → t.driver.chans.ch2 = s.driver.chans.ch2)
      ∧ t.startup.position = some p ∧ t.startup.arrangement = s.startup.arrangement
      ∧ (byteAt bs 0 ≠ 1#8 ∨ (crcBits (bytesBits (bs.take 62))).toNat ≠ bytesNat bs 62 2
            ∨ (settleParams (storedParams bs)).stations ≤ p.val →
          t.startup.params = some defaultParams ∧ t.startup.configBad = true ∧ t.startup.clamped = false
            ∧ t.startup.constants = some ⟨9043200, 9043200⟩)
      ∧ (byteAt bs 0 = 1#8 → (crcBits (bytesBits (bs.take 62))).toNat = bytesNat bs 62 2 →
          p.val < (settleParams (storedParams bs)).stations →
          t.startup.params = some (settleParams (storedParams bs)) ∧ t.startup.configBad = false
            ∧ t.startup.clamped = decide (settleParams (storedParams bs) ≠ storedParams bs)
            ∧ t.startup.constants = some
                ⟨230400 * (settleParams (storedParams bs)).circLeft / (settleParams (storedParams bs)).teeth,
                  230400 * (settleParams (storedParams bs)).circRight / (settleParams (storedParams bs)).teeth⟩))
    ∧ (∀ (b two : Nat → Nat) (bs : List Byte), (∀ i, i < 64 → bs[i]? = some (BitVec.ofNat 8 (b i)) ∧ b i < 256) →
    (∀ i, two i = 256 * b i + b (i + 1)) →
    byteAt bs 0 = BitVec.ofNat 8 (b 0) ∧ bytesNat bs 62 2 = two 62
      ∧ storedParams bs = {
          stations := b 1, freeRolling := BitVec.ofNat 4 (b 2), teeth := b 3, circLeft := two 4, circRight := two 6,
          jumpLimit := two 8, dramp := b 10, aramp := b 11, tolerance := two 12, slipAbs := two 14, slipRel := b 16,
          a1 := b 17, a2 := b 18, a3 := two 19, vEntry := two 21, vMin := two 23, pOn := two 25, pOff := two 27,
          deltaP := two 29, stepPeriod := b 31, tRelMax := b 32, yawMargin := two 33, yawStep := b 35, pEcon := two 36,
          kp := b 38, ki := b 39, uOn := two 40, offsets := ⟨two 42, two 44, two 46, two 48⟩,
          gains := ⟨two 50, two 52, two 54, two 56⟩ })

/-- Settled parameters stand in the ranges of 10, section 10.3, every one of them, and in the order of R183; settling them
again changes nothing, and parameters that stand in their ranges and order settle to themselves. The defaults stand in
their ranges. -/
def Obligations.SettledParametersInRange : Prop :=
  (∀ p : Params, (settleParams p).InRange ∧ settleParams (settleParams p) = settleParams p
      ∧ (p.InRange → settleParams p = p) ∧ (settleParams p).freeRolling = p.freeRolling)
    ∧ defaultParams.InRange

/-- The listen expiry ends the listen: the transmitter becomes ENABLED, the STARTING timer is set to 200 ms, and the
composer composes its first STATUS and sets its timer to 10 ms (R125, R132, R185). Under the config-bad mark the fault
unit first takes CONFIG_BAD: from STARTING the mode becomes PASSIVE with every channel PASSIVE, and the first STATUS
carries PASSIVE, or LATCHED where a fault taken during the listen had made the mode PASSIVE or LATCHED (R161 to R163);
from STARTING it carries PASSIVE in both lanes too where the arrangement's channels were not PASSIVE before it (R51,
R152, R154, R187; log entry 10). The STARTING expiry then hands the end of STARTING to the fault unit, and the stage
becomes DONE (R186). Either expiry is void at another stage or when it is not due (log entry 7). -/
def Obligations.ListenAndStartingExpiries : Prop :=
  (∀ (m : Time) (s : State), s.startup.stage = .listening → timerDue s.startup.listenTimer m = true →
    (s.startup.configBad = false → exec (.listenExpiry m) s = .next
      { s with
        now := m
        startup := { s.startup with stage := .reporting, listenTimer := none, startingTimer := some ⟨m, 200000⟩ }
        link := { s.link with tx := .enabled, status := { s.link.status with waiting := some s.composed } }
        composer := { s.composer with timer := some ⟨m, 10000⟩ } })
    ∧ (s.startup.configBad = true → s.fault.mode = .starting → ∃ t r, exec (.listenExpiry m) s = .next t
        ∧ t.fault.mode = .passive ∧ (∀ c, (chanGet t.slip c).phase = .passive) ∧ t.link.tx = .enabled
        ∧ t.fault.seen = s.fault.seen ||| 1024#16 ∧ t.link.status.waiting = some r ∧ r.mode = .passive
        ∧ t.startup.stage = .reporting ∧ t.composer.timer = some ⟨m, 10000⟩
        ∧ (s.slip.ch1.phase ≠ .passive → (s.arrangement = .split → s.slip.ch2.phase ≠ .passive) →
          r.left.code = .passive ∧ r.right.code = .passive)
        ∧ .modeChangeToDriver .passive ∈ t.handed ∧ .alertHanded .modulePassive none 11 ∈ t.handed
        ∧ t.fault.record = (match s.fault.record with
          | some f => some f
          | none => some ⟨.configBad, none, none, .starting, s.fault.millis, s.view.vref, false⟩))
    ∧ (s.startup.configBad = true → s.fault.mode = .passive ∨ s.fault.mode = .latched → ∃ t r,
      exec (.listenExpiry m) s = .next t ∧ t.fault.mode = .latched ∧ (s.fault.mode = .latched → t.slip = s.slip)
        ∧ (s.fault.mode = .passive → ∀ c, (chanGet t.slip c).phase = .passive)
        ∧ (s.fault.mode = .passive → .alertHanded .moduleLatched none 11 ∈ t.handed) ∧ t.link.tx = .enabled
        ∧ t.fault.seen = s.fault.seen ||| 1024#16 ∧ t.link.status.waiting = some r ∧ r.mode = .latched
        ∧ t.startup.stage = .reporting ∧ t.composer.timer = some ⟨m, 10000⟩
        ∧ t.fault.record = (match s.fault.record with
          | some f => some { f with latch := true }
          | none => some ⟨.configBad, none, none, s.fault.mode, s.fault.millis, s.view.vref, true⟩)))
    ∧ (∀ (m : Time) (s : State),
      (s.startup.stage ≠ .listening ∨ timerDue s.startup.listenTimer m = false →
        exec (.listenExpiry m) s = .next { s with now := m })
      ∧ (s.startup.stage ≠ .reporting ∨ timerDue s.startup.startingTimer m = false →
        exec (.startingExpiry m) s = .next { s with now := m }))
    ∧ ∀ (m : Time) (s : State), s.startup.stage = .reporting → timerDue s.startup.startingTimer m = true →
      exec (.startingExpiry m) s = .next
        { s with now := m, startup := { s.startup with stage := .done, startingTimer := none },
                 handed := s.handed ++ [.endOfStarting] }

/-- The end of STARTING settles the working mode by the table of R159, and the view unit's missing timer starts in every
case (R49, R154, R159). At LATCHED every channel is forced PASSIVE and each forcing is handed on (R88, R147; listed in
the model's order, log entry 1). -/
def Obligations.EndOfStartingSettlesMode : Prop :=
  ∀ (s : State) (forced : ChannelRec → ChannelRec) (tell : Channel → List Instr), s.begun = true →
    (∀ r, forced r = if r.phase = .passive then r else
      { r with phase := .passive, falseOnset := 0, releaseCount := 0, stepCount := 0, strong := false, yawSpent := false,
               faultWait := false }) →
    (∀ ch, tell ch = if (chanGet s.slip ch).phase = .passive then []
      else [.phaseHandoff ch .passive (chanGet s.slip ch).cap, .lanePhaseCopy ch .passive]) →
    ∃ t, exec .endOfStarting s = .next t
    ∧ t = { s with fault := { s.fault with mode := t.fault.mode }, slip := t.slip, standstill := t.standstill,
                   handed := t.handed, view := { s.view with missing := .running ⟨s.now, 1000000⟩ } }
    ∧ (∀ r, s.fault.mode = .starting ∨ s.fault.mode = .passive → s.fault.record = some r → r.latch = true →
        t.fault.mode = .latched ∧ t.standstill = s.standstill
          ∧ t.slip = ⟨forced s.slip.ch1, forced s.slip.ch2⟩
          ∧ t.handed = s.handed.erase .endOfStarting ++ [.modeChangeToDriver .latched] ++ tell .ch1 ++ tell .ch2
            ++ (if s.slip.ch1.phase = .test ∨ s.slip.ch2.phase = .test then [.abortEvent (.modeChange .latched)] else [])
            ++ [.alertHanded .moduleLatched none (causeCode r.cause)])
    ∧ (s.fault.mode = .starting → (∀ r, s.fault.record = some r → r.latch = false) →
        s.fault.held = ⟨false, false⟩ → t.fault.mode = .active ∧ t.slip = s.slip
          ∧ t.handed = s.handed.erase .endOfStarting ++ [.modeChangeToDriver .active])
    ∧ (s.fault.mode = .starting → (∀ r, s.fault.record = some r → r.latch = false) → s.fault.held.demandLost = true →
        t.fault.mode = .held ∧ t.slip = s.slip ∧ t.handed = s.handed.erase .endOfStarting
          ++ [.modeChangeToDriver .held, .alertHanded .moduleHeld none 9])
    ∧ (s.fault.mode = .starting → (∀ r, s.fault.record = some r → r.latch = false) →
        s.fault.held = ⟨false, true⟩ → t.fault.mode = .held ∧ t.slip = s.slip
          ∧ t.handed = s.handed.erase .endOfStarting
            ++ [.modeChangeToDriver .held, .alertHanded .moduleHeld none 10])
    ∧ (s.fault.mode = .passive → (∀ r, s.fault.record = some r → r.latch = false) →
        t.fault.mode = .passive ∧ t.slip = s.slip ∧ t.handed = s.handed.erase .endOfStarting)
    ∧ (s.fault.mode = .latched → t.fault.mode = .latched ∧ t.slip = s.slip
        ∧ t.handed = s.handed.erase .endOfStarting)

/-! ## Speed unit -/

/-- A tooth edge on an input that is not FAILED rises the edge count, saturating at 255, becomes the window's last edge,
starts an input in STANDSTILL, and is reported to the quiet control and the service responder; on a FAILED input, or
before the speed unit is started, it is ignored (R1, R5). -/
def Obligations.ToothEdgeCounted : Prop :=
  ∀ (m : Time) (i : Side) (s : State),
    (s.unitsOn = true → (sideGet s.speed.inputs i).state ≠ .failed → exec (.toothEdge m i) s = .next
      { s with
        now := m
        speed := { s.speed with inputs := sideSet s.speed.inputs i { sideGet s.speed.inputs i with
          edges := if (sideGet s.speed.inputs i).edges < 255 then (sideGet s.speed.inputs i).edges + 1 else 255
          lastEdge := some m
          state := match (sideGet s.speed.inputs i).state with | .standstill => .starting | x => x
          startMark := (sideGet s.speed.inputs i).startMark
            || decide ((sideGet s.speed.inputs i).state = .standstill) } }
        handed := s.handed ++ [.wakeEvent (.edge i), .abortEvent (.edge i)] })
    ∧ (s.unitsOn = false ∨ (sideGet s.speed.inputs i).state = .failed →
        exec (.toothEdge m i) s = .next { s with now := m })

/-- A window close leaves everything but the speed unit and the hand-offs as it was, hands the sample pair of the inputs
as they stand after it, empties the window of each input and sets the next close one period after the moment this one was
due, on the grid the model keeps (R2, R3; log entry 24). A sample is held exactly where the input's jump count rose and it
did not fail. The notices are those of the inputs that fail at this close, LEFT before RIGHT, and none where none fails:
SPEED_WIRE on a bad wire, SPEED_JUMP at a jump count of 3, else SPEED_DEAD, each naming the channel the input serves (R11,
R13, R14, R16). An input already FAILED stays as it is: with its speed 0 and accel 0 (R12, R15) its sample is FAILED, 0, 0
and not held, and it raises nothing. A close that is not due, or before the unit is started, is void (log entry 7). -/
def Obligations.WindowCloseHandsSamplePair : Prop :=
  (∀ (m : Time) (wires : Sides WireReport) (w : Timer) (s : State), s.unitsOn = true → s.speed.window = some w →
    w.period ≤ (m - w.setAt).toNat →
    ∃ (t : State) (heldL heldR : Bool) (noticeL noticeR : List Instr), exec (.windowClose m wires) s = .next t
      ∧ t = { s with now := m, speed := { t.speed with window := some { w with setAt := w.setAt + BitVec.ofNat 32 w.period } },
                     handed := s.handed ++ [.samplePair
                       ⟨⟨t.speed.inputs.left.state, t.speed.inputs.left.speed, t.speed.inputs.left.accel, heldL⟩,
                        ⟨t.speed.inputs.right.state, t.speed.inputs.right.speed, t.speed.inputs.right.accel, heldR⟩⟩]
                       ++ (noticeL ++ noticeR) }
      ∧ ∀ (i : Side) (x y : SpeedInput) (ch : Channel) (held : Bool) (notice : List Instr),
          x = sideGet s.speed.inputs i → y = sideGet t.speed.inputs i →
          ch = (if s.arrangement = .split ∧ i = .right then .ch2 else .ch1) →
          held = (if i = .left then heldL else heldR) → notice = (if i = .left then noticeL else noticeR) →
          y.edges = 0 ∧ y.lastEdge = none ∧ y.startMark = false
          ∧ (held = true ↔ y.state ≠ .failed ∧ x.jumps < y.jumps)
          ∧ (x.state ≠ .failed → y.state = .failed → y.speed = 0 ∧ y.accel = 0
            ∧ notice = [.faultNotice (.channelFault
                (if sideGet wires i ≠ .good then .speedWire else if 3 ≤ y.jumps then .speedJump else .speedDead) ch false)])
          ∧ (x.state = .failed ∨ y.state ≠ .failed → notice = [])
          ∧ (x.state = .failed → y = { x with edges := 0, lastEdge := none, startMark := false }
            ∧ (x.speed = 0 → x.accel = 0 →
                (⟨y.state, y.speed, y.accel, held⟩ : Sample) = ⟨.failed, 0, 0, false⟩)))
    ∧ ∀ (m : Time) (wires : Sides WireReport) (s : State), s.unitsOn = false ∨ timerDue s.speed.window m = false →
      exec (.windowClose m wires) s = .next { s with now := m }

/-- What fails an input at a close (R11 to R14, R16). A wire report of OPEN or SHORT: FAILED with speed 0, accel 0 and a
history of zeros, its edges discarded, its counts as they stood (log entry 18). The third discard in a row, a burst or a
jump beyond the limit: the same with the jump count 3 and the dead count 0 (log entry 18). The 400th close in a row at
speed 0 while vref is at least 960 and no own channel stands in an anti-lock phase, shown on an input in STANDSTILL and
on one that falls back to it from RUNNING; an earlier one only counts, and one without that condition returns the dead
count to 0. The cause is raised for the channel the input serves; in JOINED both inputs serve channel 1. -/
def Obligations.WindowFaultsFailInput : Prop :=
  ∀ (m : Time) (wires : Sides WireReport) (i : Side) (x : SpeedInput) (ch : Channel) (moving : Bool) (s : State),
    s.unitsOn = true → timerDue s.speed.window m = true → x = sideGet s.speed.inputs i → x.state ≠ .failed →
    ch = (if s.arrangement = .split ∧ i = .right then .ch2 else .ch1) →
    (moving = true ↔ 960 ≤ s.view.vref ∧ ∀ c, (chanGet s.slip c).phase ∉ [Phase.hold, .release, .recover, .reapply]) →
    ∃ t, exec (.windowClose m wires) s = .next t
      ∧ (sideGet wires i ≠ .good →
          sideGet t.speed.inputs i = { x with
            state := .failed, speed := 0, accel := 0, history := ⟨0, 0, 0, 0⟩, edges := 0, lastEdge := none,
            startMark := false }
          ∧ .faultNotice (.channelFault .speedWire ch false) ∈ t.handed)
      ∧ (∀ (q ref : Nat) (refEdge lastEdge : Time), sideGet wires i = .good → x.jumps = 2 →
          (24 < x.edges ∧ (x.state = .running ∨ x.state = .starting ∧ x.startMark = false)
            ∨ x.state = .running ∧ 1 ≤ x.edges ∧ x.edges ≤ 24 ∧ x.refEdge = some refEdge ∧ x.lastEdge = some lastEdge
              ∧ ref = max 1 (lastEdge - refEdge).toNat ∧ q ≤ 16383
              ∧ 2 * ref * q ≤ 2 * sideGet s.constants i * x.edges + ref
              ∧ 2 * sideGet s.constants i * x.edges + ref < 2 * ref * (q + 1)
              ∧ (x.speed + s.params.jumpLimit < q ∨ q + s.params.jumpLimit < x.speed)) →
          sideGet t.speed.inputs i = { x with
            state := .failed, speed := 0, accel := 0, history := ⟨0, 0, 0, 0⟩, edges := 0, lastEdge := none,
            startMark := false, jumps := 3, dead := 0 }
          ∧ .faultNotice (.channelFault .speedJump ch false) ∈ t.handed)
      ∧ (sideGet wires i = .good → x.jumps ≤ 2 → x.state = .standstill → moving = true → x.dead = 399 →
          sideGet t.speed.inputs i = { x with
            state := .failed, speed := 0, accel := 0, history := ⟨0, 0, 0, 0⟩, edges := 0, lastEdge := none,
            startMark := false, dead := 400 }
          ∧ .faultNotice (.channelFault .speedDead ch false) ∈ t.handed)
      ∧ (∀ refEdge, sideGet wires i = .good → x.jumps ≤ 2 → x.state = .running → x.edges = 0 →
          x.refEdge = some refEdge → sideGet s.constants i / (m - refEdge).toNat < 64 → moving = true → x.dead = 399 →
          sideGet t.speed.inputs i = { x with
            state := .failed, speed := 0, accel := 0, history := ⟨0, 0, 0, 0⟩, lastEdge := none, refEdge := none,
            startMark := false, dead := 400 }
          ∧ .faultNotice (.channelFault .speedDead ch false) ∈ t.handed)
      ∧ (sideGet wires i = .good → x.jumps ≤ 2 → x.state = .standstill → moving = true → x.dead < 399 →
          (sideGet t.speed.inputs i).state = .standstill ∧ (sideGet t.speed.inputs i).dead = x.dead + 1)
      ∧ (sideGet wires i = .good → x.jumps ≤ 2 → x.state = .standstill → moving = false →
          (sideGet t.speed.inputs i).state = .standstill ∧ (sideGet t.speed.inputs i).dead = 0)

/-- A RUNNING input with 1 to 24 edges at a close is measured: the speed is K × E over the span from the reference edge
to the last edge, a span of 0 taken as 1, rounded to nearest and at most 16383. Within the jump limit it is accepted and
the jump count is 0; beyond it, and in a burst of more than 24 edges, the speed is kept, the jump count rises and the
sample is held. The accel is the speed after the close less the oldest of the history (R7, R8, R10, R11, R12). At any
vref: the dead count rises where the speed after the close is 0 while the station judges the bus moving, and is 0
otherwise (R14). A dead count at its limit and the third discard are WindowFaultsFailInput's. -/
def Obligations.RunningInputIsMeasured : Prop :=
  ∀ (m : Time) (wires : Sides WireReport) (i : Side) (moving : Bool) (s : State) (x kept : SpeedInput) (k ref : Nat)
    (refEdge lastEdge : Time),
    s.unitsOn = true → timerDue s.speed.window m = true → x = sideGet s.speed.inputs i → x.state = .running →
    sideGet wires i = .good → k = sideGet s.constants i →
    (moving = true ↔ 960 ≤ s.view.vref ∧ ∀ c, (chanGet s.slip c).phase ∉ [Phase.hold, .release, .recover, .reapply]) →
    x.refEdge = some refEdge → x.lastEdge = some lastEdge → ref = max 1 (lastEdge - refEdge).toNat → 1 ≤ x.edges →
    kept = { x with
      accel := (x.speed : Int) - x.history.h0, history := ⟨x.history.h1, x.history.h2, x.history.h3, x.speed⟩,
      jumps := x.jumps + 1, dead := if moving = true ∧ x.speed = 0 then x.dead + 1 else 0, edges := 0, lastEdge := none,
      refEdge := some lastEdge, startMark := false } →
    ∃ t pair notices y, exec (.windowClose m wires) s = .next t ∧ t.handed = s.handed ++ .samplePair pair :: notices
      ∧ y = sideGet t.speed.inputs i
      ∧ (∀ q0 q, 2 * ref * q0 ≤ 2 * k * x.edges + ref → 2 * k * x.edges + ref < 2 * ref * (q0 + 1) →
          q = min 16383 q0 → x.edges ≤ 24 →
          (x.speed ≤ q + s.params.jumpLimit → q ≤ x.speed + s.params.jumpLimit →
            x.dead < 399 ∨ moving = false ∨ 0 < q →
            y = { x with
              speed := q, accel := (q : Int) - x.history.h0,
              history := ⟨x.history.h1, x.history.h2, x.history.h3, q⟩, jumps := 0,
              dead := if moving = true ∧ q = 0 then x.dead + 1 else 0, edges := 0,
              lastEdge := none, refEdge := some lastEdge, startMark := false }
            ∧ sideGet pair i = ⟨.running, q, y.accel, false⟩)
          ∧ (x.speed + s.params.jumpLimit < q ∨ q + s.params.jumpLimit < x.speed → x.jumps ≤ 1 →
            x.dead < 399 ∨ moving = false ∨ 0 < x.speed →
            y = kept ∧ sideGet pair i = ⟨.running, x.speed, y.accel, true⟩))
      ∧ (x.edges > 24 → x.jumps ≤ 1 → x.dead < 399 ∨ moving = false ∨ 0 < x.speed →
          y = kept ∧ sideGet pair i = ⟨.running, x.speed, y.accel, true⟩)

/-- A RUNNING input without an edge takes the smaller of its speed and floor(K / elapsed), and returns to STANDSTILL
with speed 0 and no reference edge once that bound is below 64; an input in STANDSTILL stays there (R5, R9, R12). The
jump count stands and no sample is held (R9, R11). At any vref: the dead count rises where the speed after the close is
0 while the station judges the bus moving, and is 0 otherwise (R14). -/
def Obligations.StillInputIsBounded : Prop :=
  ∀ (m : Time) (wires : Sides WireReport) (i : Side) (moving : Bool) (s : State) (x : SpeedInput) (refEdge : Time)
    (after : InputState → Nat → Option Time → SpeedInput),
    s.unitsOn = true → timerDue s.speed.window m = true → x = sideGet s.speed.inputs i → sideGet wires i = .good →
    (moving = true ↔ 960 ≤ s.view.vref ∧ ∀ c, (chanGet s.slip c).phase ∉ [Phase.hold, .release, .recover, .reapply]) →
    x.jumps ≤ 2 → x.edges = 0 →
    (∀ state v ref, after state v ref = { x with
      state := state, speed := v, accel := (v : Int) - x.history.h0,
      history := ⟨x.history.h1, x.history.h2, x.history.h3, v⟩,
      dead := if moving = true ∧ v = 0 then x.dead + 1 else 0, lastEdge := none, refEdge := ref, startMark := false }) →
    ∃ t pair notices y, exec (.windowClose m wires) s = .next t ∧ t.handed = s.handed ++ .samplePair pair :: notices
      ∧ y = sideGet t.speed.inputs i
      ∧ (∀ b v, x.state = .running → x.refEdge = some refEdge → b = sideGet s.constants i / (m - refEdge).toNat → 64 ≤ b →
          v = min x.speed b → x.dead < 399 ∨ moving = false ∨ 0 < v →
          y = after .running v (some refEdge) ∧ sideGet pair i = ⟨.running, v, y.accel, false⟩)
      ∧ (x.state = .running → x.refEdge = some refEdge → sideGet s.constants i / (m - refEdge).toNat < 64 →
          x.dead < 399 ∨ moving = false →
          y = after .standstill 0 none ∧ sideGet pair i = ⟨.standstill, 0, y.accel, false⟩)
      ∧ (x.state = .standstill → x.dead < 399 ∨ moving = false →
          y = after .standstill 0 x.refEdge ∧ sideGet pair i = ⟨.standstill, 0, y.accel, false⟩)

/-- An input in STARTING at a close (R6): at the close of its start window it stays there, its last edge becoming the
reference edge; in a later window without an edge it stays, or returns to STANDSTILL once floor(K / elapsed) is below
64; with 1 to 24 edges it enters RUNNING at the measured speed, a span of 0 taken as 1, with its history filled, accel 0
and jump count 0; and a burst keeps it STARTING, counts and is held. Its speed is 0 until it runs (R3, R7, R8, R11,
R12). At any vref: the dead count rises where the speed after the close is 0 while the station judges the bus moving,
and is 0 otherwise; at its 400th the input fails (R14). -/
def Obligations.StartingInputSettles : Prop :=
  ∀ (m : Time) (wires : Sides WireReport) (i : Side) (moving : Bool) (ch : Channel) (s : State) (x : SpeedInput) (k : Nat)
    (still : InputState → Option Time → Nat → SpeedInput),
    s.unitsOn = true → timerDue s.speed.window m = true → x = sideGet s.speed.inputs i → x.state = .starting →
    sideGet wires i = .good → x.jumps ≤ 2 → k = sideGet s.constants i →
    (moving = true ↔ 960 ≤ s.view.vref ∧ ∀ c, (chanGet s.slip c).phase ∉ [Phase.hold, .release, .recover, .reapply]) →
    ch = (if s.arrangement = .split ∧ i = .right then .ch2 else .ch1) →
    (∀ state ref jumps, still state ref jumps = { x with
      state := state, speed := 0, accel := -(x.history.h0 : Int),
      history := ⟨x.history.h1, x.history.h2, x.history.h3, 0⟩, jumps := jumps,
      dead := if moving then x.dead + 1 else 0, edges := 0, lastEdge := none, refEdge := ref, startMark := false }) →
    ∃ t pair notices y, exec (.windowClose m wires) s = .next t ∧ t.handed = s.handed ++ .samplePair pair :: notices
      ∧ y = sideGet t.speed.inputs i ∧ y.edges = 0 ∧ y.lastEdge = none ∧ y.startMark = false
      ∧ (x.dead < 399 ∨ moving = false →
          (x.startMark = true → 1 ≤ x.edges → y = still .starting x.lastEdge x.jumps
            ∧ sideGet pair i = ⟨.starting, 0, y.accel, false⟩)
          ∧ (∀ refEdge, x.startMark = false → x.edges = 0 → x.refEdge = some refEdge →
            (k / (m - refEdge).toNat < 64 → y = still .standstill none x.jumps
              ∧ sideGet pair i = ⟨.standstill, 0, y.accel, false⟩)
            ∧ (64 ≤ k / (m - refEdge).toNat → y = still .starting (some refEdge) x.jumps
              ∧ sideGet pair i = ⟨.starting, 0, y.accel, false⟩))
          ∧ (x.startMark = false → 24 < x.edges → x.jumps ≤ 1 → y = still .starting x.lastEdge (x.jumps + 1)
            ∧ sideGet pair i = ⟨.starting, 0, y.accel, true⟩))
      ∧ (∀ refEdge lastEdge ref q0 q, x.startMark = false → 1 ≤ x.edges → x.edges ≤ 24 → x.refEdge = some refEdge →
          x.lastEdge = some lastEdge → ref = max 1 (lastEdge - refEdge).toNat →
          2 * ref * q0 ≤ 2 * k * x.edges + ref → 2 * k * x.edges + ref < 2 * ref * (q0 + 1) → q = min 16383 q0 →
          x.dead < 399 ∨ moving = false ∨ 0 < q →
          y = { x with state := .running, speed := q, accel := 0, history := ⟨q, q, q, q⟩, jumps := 0,
                       dead := if moving = true ∧ q = 0 then x.dead + 1 else 0,
                       edges := 0, lastEdge := none, refEdge := some lastEdge, startMark := false }
          ∧ sideGet pair i = ⟨.running, q, 0, false⟩)
      ∧ (moving = true → x.dead = 399 →
          x.startMark = true ∨ x.edges = 0 ∨ (24 < x.edges ∧ x.jumps ≤ 1) →
          y.state = .failed ∧ y.speed = 0 ∧ y.accel = 0 ∧ y.dead = 400 ∧ sideGet pair i = ⟨.failed, 0, 0, false⟩
            ∧ .faultNotice (.channelFault .speedDead ch false) ∈ t.handed)

/-! ## Pressure unit -/

/-- A pressure sample reads the four inputs, chamber 2 in SPLIT only, and settles Pd: the demand reading while the demand
sensor is GOOD; with it FAILED, the highest demand of the FRESH entries that carry one, in mbar, or 0 and the demand-lost
mark with none. It hands both chamber samples first, then the notices: CHAMBER_SENSOR and AUX_SENSOR for each sensor that
fails at it, DEMAND_LOST as the mark is set and its clearing as the mark is cleared, and the braking rise to the quiet
control and the service responder (R19 to R23, R25, R26, R29). The next sample is due one period after the moment this one
was due (log entry 24); one that is not due, or before the unit is started, is void (log entry 7). -/
def Obligations.PressureSampleReadsInputs : Prop :=
  (∀ (m : Time) (codes : PressureCodes) (w : Timer) (failed : Sensor → Sensor → Bool) (p : PressureUnit) (s : State),
    s.unitsOn = true → s.pressure.timer = some w → w.period ≤ (m - w.setAt).toNat → p = s.pressure →
    (∀ x y, failed x y = (decide (x.state = .good) && decide (y.state = .failed))) →
    ∃ (t : State) (q : PressureUnit), exec (.pressureSample m codes) s = .next t ∧ q = t.pressure
      ∧ t = { s with now := m, pressure := q,
                     handed := s.handed
                       ++ [.chamberSample .ch1 q.chambers.ch1.reading q.chambers.ch1.state q.pd,
                          .chamberSample .ch2 q.chambers.ch2.reading q.chambers.ch2.state q.pd]
                       ++ ((if failed p.chambers.ch1 q.chambers.ch1
                            then [.faultNotice (.channelFault .chamberSensor .ch1 false)] else [])
                         ++ (if failed p.chambers.ch2 q.chambers.ch2
                            then [.faultNotice (.channelFault .chamberSensor .ch2 false)] else [])
                         ++ (if failed p.demand q.demand then [.faultNotice (.observation .auxSensor)] else [])
                         ++ (if failed p.reservoir q.reservoir then [.faultNotice (.observation .auxSensor)] else [])
                         ++ (if p.demandLost = false ∧ q.demandLost = true
                            then [.faultNotice (.reversible .demandLost)] else [])
                         ++ (if p.demandLost = true ∧ q.demandLost = false then [.causeCleared .demandLost] else [])
                         ++ (if p.braking = false ∧ q.braking = true
                            then [.wakeEvent .brakingRise, .abortEvent .brakingRise] else [])) }
      ∧ q.timer = some { w with setAt := w.setAt + BitVec.ofNat 32 w.period }
      ∧ sensorSampled s.params.offsets.demand s.params.gains.demand codes.demand.toNat p.demand q.demand
      ∧ sensorSampled s.params.offsets.chamber1 s.params.gains.chamber1 codes.chamber1.toNat p.chambers.ch1 q.chambers.ch1
      ∧ (s.arrangement = .split → sensorSampled s.params.offsets.chamber2 s.params.gains.chamber2
          codes.chamber2.toNat p.chambers.ch2 q.chambers.ch2)
      ∧ (s.arrangement = .joined → q.chambers.ch2 = p.chambers.ch2)
      ∧ sensorSampled s.params.offsets.reservoir s.params.gains.reservoir codes.reservoir.toNat p.reservoir q.reservoir
      ∧ (q.demand.state = .good → q.pd = q.demand.reading ∧ q.demandLost = p.demandLost)
      ∧ (∀ (x : Position) (d : Nat), q.demand.state = .failed → (quadGet s.view.peers x).state = .fresh →
          (quadGet s.view.peers x).demand = some d →
          (∀ y e, (quadGet s.view.peers y).state = .fresh → (quadGet s.view.peers y).demand = some e → e ≤ d) →
          q.pd = 100 * d ∧ q.demandLost = false)
      ∧ (q.demand.state = .failed → (∀ y, (quadGet s.view.peers y).state = .fresh → (quadGet s.view.peers y).demand = none) →
          q.pd = 0 ∧ q.demandLost = true))
    ∧ ∀ (m : Time) (codes : PressureCodes) (s : State), s.unitsOn = false ∨ timerDue s.pressure.timer m = false →
      exec (.pressureSample m codes) s = .next { s with now := m }

/-- The braking flag is evaluated at each pressure sample, in every mode, from the Pd settled at it: a clear flag is set
at P_on and above, and a set one is cleared below P_off. The parameters settled at a start have P_on from 100 to 1000 mbar
and P_off from 50 mbar up to P_on − 50; the defaults are 300 and 200 (R28). -/
def Obligations.BrakingFlagFollowsDemand : Prop :=
  (∀ (m : Time) (codes : PressureCodes) (s : State), s.unitsOn = true → timerDue s.pressure.timer m = true →
    ∃ t, exec (.pressureSample m codes) s = .next t
      ∧ (s.pressure.braking = false → s.params.pOn ≤ t.pressure.pd → t.pressure.braking = true)
      ∧ (s.pressure.braking = false → t.pressure.pd < s.params.pOn → t.pressure.braking = false)
      ∧ (s.pressure.braking = true → t.pressure.pd < s.params.pOff → t.pressure.braking = false)
      ∧ (s.pressure.braking = true → s.params.pOff ≤ t.pressure.pd → t.pressure.braking = true))
    ∧ (∀ p : Params, 100 ≤ (settleParams p).pOn ∧ (settleParams p).pOn ≤ 1000 ∧ 50 ≤ (settleParams p).pOff
      ∧ (settleParams p).pOff + 50 ≤ (settleParams p).pOn)
    ∧ defaultParams.pOn = 300 ∧ defaultParams.pOff = 200

/-- The two reservoir runs and the economy flag at a pressure sample (R23, R30, R31): with a GOOD sensor the low run lasts
while the reading is below P_econ and the high run while it is at least P_econ + 500, each beginning at the first such
sample and absent at any other; the flag is set once the low run is 500 ms old, cleared once the high run is 2000 ms old,
and stands otherwise. A FAILED sensor clears the flag and both runs. -/
def Obligations.EconomyFlagFollowsRuns : Prop :=
  ∀ (m : Time) (codes : PressureCodes) (s : State), s.unitsOn = true → timerDue s.pressure.timer m = true →
    ∃ t q, exec (.pressureSample m codes) s = .next t ∧ q = t.pressure
      ∧ (q.reservoir.state = .good →
          q.lowRun = (if q.reservoir.reading < s.params.pEcon then some (s.pressure.lowRun.getD m) else none)
          ∧ q.highRun = (if s.params.pEcon + 500 ≤ q.reservoir.reading then some (s.pressure.highRun.getD m) else none)
          ∧ (∀ t0, q.lowRun = some t0 → 500000 ≤ (m - t0).toNat → q.economy = true)
          ∧ (∀ t0, q.highRun = some t0 → 2000000 ≤ (m - t0).toNat → q.economy = false)
          ∧ ((∀ t0, q.lowRun = some t0 → (m - t0).toNat < 500000) →
            (∀ t0, q.highRun = some t0 → (m - t0).toNat < 2000000) → q.economy = s.pressure.economy))
      ∧ (q.reservoir.state = .failed → q.economy = false ∧ q.lowRun = none ∧ q.highRun = none)

/-! ## View unit -/

/-- A FRESH entry at its STALE limit becomes STALE with every field kept, and a STALE one at its LOST limit becomes
LOST, its lanes and pressures cleared; the limits are 30 ms and 100 ms, or 1500 ms and 3000 ms for a reported mode of
QUIET. Only the alone flag may change beside the entry. The expiry of the missing timer makes every expected entry that
is still EMPTY missing. After each of the three the alone flag is set exactly when every expected entry is LOST, or
EMPTY and missing. An ageing expiry that is not due, or of an entry in another state, is void (R40 to R42, R44, R49); so
is one of the missing timer that is not due (log entry 7). -/
def Obligations.EntriesAge : Prop :=
  (∀ (m t0 : Time) (p : Position) (e : PeerEntry) (s : State), e = quadGet s.view.peers p → e.accepted = some t0 →
    (e.state = .fresh → (if e.mode = .quiet then 1500000 else 30000) ≤ (m - t0).toNat →
      ∃ t, exec (.staleExpiry m p) s = .next t ∧ (t.view.alone = true ↔ t.AloneRule)
        ∧ t = { s with now := m, view := { s.view with
            peers := quadSet s.view.peers p { e with state := .stale }, alone := t.view.alone } })
    ∧ (e.state = .stale → (if e.mode = .quiet then 3000000 else 100000) ≤ (m - t0).toNat →
      ∃ t, exec (.lostExpiry m p) s = .next t ∧ (t.view.alone = true ↔ t.AloneRule)
        ∧ t = { s with now := m, view := { s.view with
            peers := quadSet s.view.peers p { e with
              state := .lost, demand := none, reservoir := none, lanes := ⟨⟨none, 0, .openLane⟩, ⟨none, 0, .openLane⟩⟩ }
            alone := t.view.alone } }))
    ∧ (∀ (m : Time) (p : Position) (e : PeerEntry) (s : State), e = quadGet s.view.peers p →
      (e.state ≠ .fresh ∨ (∀ t0, e.accepted = some t0 → (m - t0).toNat < if e.mode = .quiet then 1500000 else 30000) →
        exec (.staleExpiry m p) s = .next { s with now := m })
      ∧ (e.state ≠ .stale ∨ (∀ t0, e.accepted = some t0 → (m - t0).toNat < if e.mode = .quiet then 3000000 else 100000) →
        exec (.lostExpiry m p) s = .next { s with now := m }))
    ∧ (∀ (m : Time) (s : State), (∀ w, s.view.missing = .running w → (m - w.setAt).toNat < w.period) →
      exec (.missingTimerExpiry m) s = .next { s with now := m })
    ∧ ∀ (m : Time) (w : Timer) (s : State), s.view.missing = .running w → w.period ≤ (m - w.setAt).toNat →
      ∃ t, exec (.missingTimerExpiry m) s = .next t ∧ (t.view.alone = true ↔ t.AloneRule)
        ∧ t = { s with now := m, view := { s.view with missing := .expired, alone := t.view.alone } }

/-- A STATUS or ALERT that carries the own position raises POSITION_CLASH, one from a position not expected is counted as
foreign, and one of a wrong length from an expected position as a receive error; nothing of it is kept (R36, R129). A
STATUS of 13 bytes from an expected position is accepted from EMPTY or LOST whatever its sequence, and from FRESH or STALE
at a distance of 1 to 128, with a gap of d − 1 counted; the entry is replaced from the frame, the alone flag is evaluated
if the entry's state changed, and the quiet control gets the acceptance notice. At a distance of 0 or above 128 it is
refused: the duplicate count rises and the entry stands (R36 to R39, R49, R129). -/
def Obligations.SenderAndSequenceAreJudged : Prop :=
  (∀ (sender : Fin 8) (p : Position) (payload : List Byte) (e : PeerEntry) (s : State), s.unitsOn = true →
    sender.val = p.val → p ≠ s.position → p.val < s.params.stations → payload.length = 13 →
    e = quadGet s.view.peers p →
    (∀ missed, ((e.state = .empty ∨ e.state = .lost) ∧ missed = 0)
        ∨ ((e.state = .fresh ∨ e.state = .stale) ∧ ∃ last, e.lastSeq = some last
            ∧ 1 ≤ (byteAt payload 0 - last).toNat ∧ (byteAt payload 0 - last).toNat ≤ 128
            ∧ missed + 1 = (byteAt payload 0 - last).toNat) →
      ∃ t, exec (.statusReceived sender payload) s = .next t ∧ (e.state ≠ .fresh → (t.view.alone = true ↔ t.AloneRule))
        ∧ (e.state = .fresh → t.view.alone = s.view.alone) ∧ t =
        { s with
          view := { s.view with
            peers := quadSet s.view.peers p
              { state := .fresh, lastSeq := some (byteAt payload 0), accepted := some s.now,
                mode := (decodeStatus payload).mode, arrangement := (decodeStatus payload).arrangement,
                vref := (decodeStatus payload).vref, demand := (decodeStatus payload).demand,
                reservoir := (decodeStatus payload).reservoir, lanes := (decodeStatus payload).lanes }
            alone := t.view.alone }
          link := { s.link with stats := { s.link.stats with gaps := min 65535 (s.link.stats.gaps + missed) } }
          handed := s.handed.erase (.statusReceived sender payload)
            ++ [.wakeEvent (.acceptance (decodeStatus payload).mode (decodeStatus payload).vref)] })
    ∧ (∀ last, e.state = .fresh ∨ e.state = .stale → e.lastSeq = some last →
        (byteAt payload 0 - last).toNat = 0 ∨ 128 < (byteAt payload 0 - last).toNat →
        exec (.statusReceived sender payload) s = .next
          { s with
            link := { s.link with stats := { s.link.stats with duplicates := min 65535 (s.link.stats.duplicates + 1) } }
            handed := s.handed.erase (.statusReceived sender payload) }))
    ∧ (∀ (sender : Fin 8) (payload : List Byte) (c : Instr) (s : State), s.unitsOn = true →
    c = .statusReceived sender payload ∨ c = .alertReceived sender payload →
    (sender.val = s.position.val → exec c s
        = .next { s with handed := s.handed.erase c ++ [.faultNotice .positionClash] })
    ∧ (sender.val ≠ s.position.val → s.params.stations ≤ sender.val → exec c s = .next
        { s with
          handed := s.handed.erase c
          link := { s.link with stats := { s.link.stats with foreignFrames := min 65535 (s.link.stats.foreignFrames + 1) } } })
    ∧ (sender.val ≠ s.position.val → sender.val < s.params.stations → s.params.stations ≤ 4 →
        (c = .statusReceived sender payload → payload.length ≠ 13) →
        (c = .alertReceived sender payload → payload.length ∉ [3, 6, 9, 12]) → exec c s = .next
        { s with
          handed := s.handed.erase c
          link := { s.link with stats := { s.link.stats with receiveErrors := min 65535 (s.link.stats.receiveErrors + 1) } } }))

/-- A STATUS frame as a station sends it is read back by a receiver as it was composed: mode, arrangement, vref, lanes
with their accels and codes, and pressures (R38, R134 to R136, R197). The bytes sent are those of section 12.2, the
flags and mask bits of byte 2 among them, and those of an ALERT entry are those of section 12.3 (R139, R141, R197). Any
payload of 13 bytes is read by section 12.2: a mode code of 7 as PASSIVE, a lane's presence by its bit, a pressure
present when its byte is 0 to 150, whatever its presence bit says, and an accel by its sign (R38, R197). -/
def Obligations.StatusPayloadReadsBack : Prop :=
  (∀ (seq : Byte) (r : StatusReport), r.vref ≤ 16383 →
    (∀ v, r.left.speed = some v → v ≤ 16383) → (∀ v, r.right.speed = some v → v ≤ 16383) →
    -128 ≤ r.left.accel → r.left.accel ≤ 127 → -128 ≤ r.right.accel → r.right.accel ≤ 127 →
    (∀ v, r.demand = some v → v ≤ 150) → (∀ v, r.reservoir = some v → v ≤ 150) →
    (encodeStatus seq r).length = 13 ∧ decodeStatus (encodeStatus seq r)
      = { seq := seq, mode := r.mode, arrangement := r.arrangement, vref := r.vref, demand := r.demand,
          reservoir := r.reservoir, lanes := ⟨r.left, r.right⟩ }
      ∧ ∀ (b : Nat → Byte) (mode codeL codeR f : Nat) (bit : Bool → Nat → Nat), (∀ n, b n = BitVec.ofNat 8 n) →
        (∀ x n, bit x n = if x then n else 0) →
        (r.mode, mode) ∈ [(Mode.starting, 0), (.active, 1), (.quiet, 2), (.service, 3), (.held, 4), (.passive, 5),
          (.latched, 6)] →
        (∀ l c, l = r.left.code ∧ c = codeL ∨ l = r.right.code ∧ c = codeR →
          (l, c) ∈ [(LaneCode.openLane, 0), (.capped, 1), (.hold, 2), (.release, 3), (.recover, 4), (.reapply, 5),
            (.passive, 6), (.test, 7)]) →
        f = r.vref * 17179869184 + r.left.speed.getD 0 * 1048576 + r.right.speed.getD 0 * 64 + codeL * 8 + codeR →
        encodeStatus seq r = [seq,
          b (32 * mode + (if r.arrangement = .joined then 16 else 0) + bit r.demand.isSome 8 + bit r.reservoir.isSome 4
            + bit r.left.speed.isSome 2 + bit r.right.speed.isSome 1),
          b (bit r.economy 128 + bit r.alone 64 + bit r.trackingWarning 32 + bit r.supplySag 16 + bit r.coasting 8
            + bit r.maskLeft 4 + bit r.maskRight 2),
          b (f / 1099511627776), b (f / 4294967296), b (f / 16777216), b (f / 65536), b (f / 256), b f,
          BitVec.ofInt 8 r.left.accel, BitVec.ofInt 8 r.right.accel, b (r.demand.getD 255), b (r.reservoir.getD 255)])
    ∧ (∀ (p : List Byte) (n : Nat → Nat) (f : Nat) (accel : Nat → Int) (pressure : Nat → Option Nat) (mode : Mode)
        (codeL codeR : LaneCode), p.length = 13 → (∀ i, n i = (byteAt p i).toNat) →
    f = n 3 * 1099511627776 + n 4 * 4294967296 + n 5 * 16777216 + n 6 * 65536 + n 7 * 256 + n 8 →
    (∀ i, accel i = if n i < 128 then (n i : Int) else n i - 256) →
    (∀ i, pressure i = if n i ≤ 150 then some (n i) else none) →
    (n 1 / 32, mode) ∈ [(0, Mode.starting), (1, .active), (2, .quiet), (3, .service), (4, .held), (5, .passive),
      (6, .latched), (7, .passive)] →
    (∀ l c, l = codeL ∧ c = f / 8 % 8 ∨ l = codeR ∧ c = f % 8 →
      (l, c) ∈ [(LaneCode.openLane, 0), (.capped, 1), (.hold, 2), (.release, 3), (.recover, 4), (.reapply, 5),
        (.passive, 6), (.test, 7)]) →
    decodeStatus p = {
      seq := byteAt p 0, mode := mode, arrangement := if n 1 / 16 % 2 = 1 then .joined else .split,
      vref := f / 17179869184, demand := pressure 11, reservoir := pressure 12,
      lanes := ⟨⟨if n 1 / 2 % 2 = 1 then some (f / 1048576 % 16384) else none, accel 9, codeL⟩,
        ⟨if n 1 % 2 = 1 then some (f / 64 % 16384) else none, accel 10, codeR⟩⟩ })
    ∧ (∀ (a : Alert) (kind chan side : Nat), a.value ≤ 255 →
    (a.kind, kind) ∈ [(AlertKind.lockOnset, 1), (.cycleEnd, 2), (.channelPassive, 3), (.moduleHeld, 4),
      (.modulePassive, 5), (.moduleLatched, 6), (.moduleRecovered, 7), (.positionClash, 8)] →
    (a.channel, chan) ∈ [(none, 0), (some Channel.ch1, 1), (some .ch2, 2)] →
    (a.side, side) ∈ [(AlertSide.none, 0), (.left, 1), (.right, 2), (.both, 3)] →
    ∀ rest, encodeAlerts (a :: rest)
      = [BitVec.ofNat 8 kind, BitVec.ofNat 8 (64 * chan + 16 * side), BitVec.ofNat 8 a.value] ++ encodeAlerts rest)
    ∧ encodeAlerts [] = []

/-- An ALERT from an expected position; first one of one entry. From a FRESH or STALE sender a LOCK_ONSET, CYCLE_END or
CHANNEL_PASSIVE writes HOLD, OPEN or PASSIVE into the lanes its channel governs and changes nothing else: in SPLIT the
LEFT lane for channel 1 and the RIGHT for channel 2, in JOINED both for channel 1 and none for channel 2 (R45, R46). A
lane alert with another channel field, an entry of an unknown kind and a POSITION_CLASH write nothing and add 1 to the
foreign-frame count (R48, R197). A MODULE_HELD, MODULE_PASSIVE, MODULE_LATCHED or MODULE_RECOVERED sets the sender's
reported mode, whatever its channel field (R45, R47); where that mode was QUIET the short limits apply at once: at 100
ms since the acceptance the entry becomes LOST, at 30 ms a FRESH one becomes STALE, and the alone flag is evaluated if
its state changed (R40, R42, R43, R49). From an EMPTY or LOST sender the frame is set aside (R45). An ALERT of two,
three or four entries has the effect of its first entry and then of the rest (R45); where the first makes the sender
LOST, the rest is still applied, as to a STALE entry that then stands LOST: the model's choice, log entry 16. -/
def Obligations.AlertEntriesAreApplied : Prop :=
  (∀ (sender : Fin 8) (p : Position) (kind field value : Byte) (code : LaneCode) (c : Instr) (e : PeerEntry)
    (written : Sides Lane → State) (s : State),
    s.unitsOn = true → sender.val = p.val → p ≠ s.position → p.val < s.params.stations → e = quadGet s.view.peers p →
    s.link.stats.foreignFrames ≤ 65535 → c = .alertReceived sender [kind, field, value] →
    (∀ lanes, written lanes = { s with
      handed := s.handed.erase c
      view := { s.view with peers := quadSet s.view.peers p { e with lanes := lanes } } }) →
    (e.state = .fresh ∨ e.state = .stale →
      ((kind = 1#8 ∧ code = .hold) ∨ (kind = 2#8 ∧ code = .openLane) ∨ (kind = 3#8 ∧ code = .passive) →
        (e.arrangement = .split → field.toNat / 64 = 1 →
          exec c s = .next (written ⟨{ e.lanes.left with code := code }, e.lanes.right⟩))
        ∧ (e.arrangement = .split → field.toNat / 64 = 2 →
          exec c s = .next (written ⟨e.lanes.left, { e.lanes.right with code := code }⟩))
        ∧ (e.arrangement = .joined → field.toNat / 64 = 1 →
          exec c s = .next (written ⟨{ e.lanes.left with code := code }, { e.lanes.right with code := code }⟩))
        ∧ (e.arrangement = .joined → field.toNat / 64 = 2 → exec c s = .next (written e.lanes)))
      ∧ (kind.toNat = 0 ∨ 8 ≤ kind.toNat ∨ (kind.toNat ≤ 3 ∧ (field.toNat / 64 = 0 ∨ field.toNat / 64 = 3)) →
        exec c s = .next
          { s with
            handed := s.handed.erase c
            link := { s.link with stats := { s.link.stats with
              foreignFrames := min 65535 (s.link.stats.foreignFrames + 1) } } }))
    ∧ (e.state = .empty ∨ e.state = .lost → exec c s = .next { s with handed := s.handed.erase c }))
    ∧ (∀ (sender : Fin 8) (p : Position) (kind field value : Byte) (mode : Mode) (t0 : Time) (c : Instr) (e : PeerEntry)
    (s : State),
    s.unitsOn = true → sender.val = p.val → p ≠ s.position → p.val < s.params.stations → e = quadGet s.view.peers p →
    s.link.stats.foreignFrames ≤ 65535 → c = .alertReceived sender [kind, field, value] →
    (kind, mode) ∈ [(4#8, Mode.held), (5#8, .passive), (6#8, .latched), (7#8, .active)] →
    e.state = .fresh ∨ e.state = .stale → e.accepted = some t0 →
    ∃ t f, exec c s = .next t
      ∧ t = { s with handed := s.handed.erase c,
                     view := { s.view with peers := quadSet s.view.peers p f, alone := t.view.alone } }
      ∧ (e.mode ≠ .quiet ∨ (s.now - t0).toNat < 30000 → f = { e with mode := mode })
      ∧ (e.mode = .quiet → 30000 ≤ (s.now - t0).toNat → (s.now - t0).toNat < 100000 →
          f = { e with mode := mode, state := .stale })
      ∧ (e.mode = .quiet → 100000 ≤ (s.now - t0).toNat → f = { e with
          mode := mode, state := .lost, demand := none, reservoir := none,
          lanes := ⟨⟨none, 0, .openLane⟩, ⟨none, 0, .openLane⟩⟩ })
      ∧ (f.state = e.state → t.view.alone = s.view.alone) ∧ (f.state ≠ e.state → (t.view.alone = true ↔ t.AloneRule)))
    ∧ (∀ (sender : Fin 8) (p : Position) (first rest : List Byte) (whole : Instr) (f : PeerEntry) (s t u : State),
    s.unitsOn = true → sender.val = p.val → p ≠ s.position → p.val < s.params.stations →
    (quadGet s.view.peers p).state = .fresh ∨ (quadGet s.view.peers p).state = .stale →
    first.length = 3 → rest.length = 3 ∨ rest.length = 6 ∨ rest.length = 9 →
    whole = .alertReceived sender (first ++ rest) →
    exec (.alertReceived sender first) s = .next t → f = quadGet t.view.peers p →
    (f.state ≠ .lost → exec (.alertReceived sender rest) { t with handed := s.handed } = .next u →
      exec whole s = .next { u with handed := s.handed.erase whole })
    ∧ (f.state = .lost → exec (.alertReceived sender rest) { t with
          handed := s.handed
          view := { t.view with peers := quadSet t.view.peers p { f with state := .stale } } } = .next u →
      exec whole s = .next { u with
        handed := s.handed.erase whole
        view := { u.view with
          peers := quadSet u.view.peers p { quadGet u.view.peers p with state := .lost } } }))

/-- A phase change is copied at once into the own lane or lanes of its channel; in JOINED both lanes carry channel 1 and
none carries channel 2 (R51). The copy is taken in its turn (R86). -/
def Obligations.PhaseIsCopiedToOwnLanes : Prop :=
  ∀ (ch : Channel) (ph : Phase) (code : LaneCode) (own : Sides Lane) (s : State), s.begun = true →
    s.inTurn (.lanePhaseCopy ch ph) = true →
    own = quadGet s.view.lanes s.position →
    (ph, code) ∈ [(Phase.inactive, LaneCode.openLane), (.follow, .openLane), (.capped, .capped), (.hold, .hold),
      (.release, .release), (.recover, .recover), (.reapply, .reapply), (.passive, .passive), (.test, .test)] →
    exec (.lanePhaseCopy ch ph) s = .next
      { s with
        handed := s.handed.erase (.lanePhaseCopy ch ph)
        view := { s.view with
          lanes := quadSet s.view.lanes s.position
            ⟨if ch = .ch2 then own.left else { own.left with code := code },
              if s.arrangement = .joined ∧ ch = .ch1 ∨ s.arrangement = .split ∧ ch = .ch2
              then { own.right with code := code } else own.right⟩ } }

/-- A sample pair fills the wheel vector: an own lane takes its sample's speed and accel, absent and 0 from a FAILED
input, under the phase code last copied (log entry 11), and its state and held mark are kept; a peer's lanes are those
of its entry while that is FRESH or STALE, else absent, 0 and OPEN. It hands the reference update of the vref and mask
it computes, and leaves the peer table and everything outside the view unit and the quiet control as it was. Without a
candidate vref coasts by Dramp and the coasting count rises; with one, vref moves by at most Dramp down, and a rise
above Aramp comes only from the peer floor; the first update takes the candidate value without the ramp. The active mask
then holds exactly the lanes whose speed is present and whose phase code is HOLD, RELEASE, RECOVER or REAPPLY, as the
vector then stands (R50, R52, R53, R56, R57, R59 to R61). A vref above 0 gives the wake notice (R176), and nothing more is
handed but the change into QUIET of a station in ACTIVE at standstill (R174; StandstillEntersQuiet). -/
def Obligations.SamplePairRampsVref : Prop :=
  ∀ (pair : Sides Sample) (s : State), s.unitsOn = true →
    ∃ t, exec (.samplePair pair) s = .next t
      ∧ t = { s with view := t.view, standstill := t.standstill, handed := t.handed }
      ∧ t.view.peers = s.view.peers ∧ t.view.firstWindow = false ∧ t.view.alone = s.view.alone
      ∧ t.view.missing = s.view.missing
      ∧ (∀ (i : Side) (x : Sample) (code : LaneCode), x = sideGet pair i →
          code = (sideGet (quadGet s.view.lanes s.position) i).code →
          sideGet (quadGet t.view.lanes s.position) i
            = (if x.state = .failed then ⟨none, 0, code⟩ else ⟨some x.speed, x.accel, code⟩)
          ∧ sideGet t.view.own i = ⟨x.state, x.held⟩)
      ∧ (∀ (q : Position) (e : PeerEntry), q ≠ s.position → e = quadGet s.view.peers q →
          (e.state = .fresh ∨ e.state = .stale → quadGet t.view.lanes q = e.lanes)
          ∧ (e.state = .lost ∨ e.state = .empty →
            quadGet t.view.lanes q = ⟨⟨none, 0, .openLane⟩, ⟨none, 0, .openLane⟩⟩))
      ∧ (∃ rest, t.handed = s.handed.erase (.samplePair pair)
          ++ .referenceUpdate ⟨t.view.vref, pair, t.view.mask⟩
            :: ((if 0 < t.view.vref then [.wakeEvent (.reference t.view.vref)] else []) ++ rest)
          ∧ (rest = [] ∨ rest = [.quietEntry] ∧ s.fault.mode = .active ∧ t.view.vref = 0
            ∧ pair.left.state = .standstill ∧ pair.right.state = .standstill))
      ∧ (s.view.firstWindow = false → s.view.vref - s.params.dramp ≤ t.view.vref)
      ∧ (s.view.firstWindow = false → (∀ p, (quadGet s.view.peers p).state ≠ .fresh) →
          t.view.vref ≤ s.view.vref + s.params.aramp)
      ∧ (s.view.firstWindow = false → (∀ p, (quadGet s.view.peers p).state ≠ .fresh) →
          (pair.left.state ≠ .running ∨ pair.left.held = true) → (pair.right.state ≠ .running ∨ pair.right.held = true) →
          t.view.vref = s.view.vref - s.params.dramp ∧ t.view.coasting = min 255 (s.view.coasting + 1))
      ∧ (s.view.firstWindow = true → (∀ p, (quadGet s.view.peers p).state ≠ .fresh) → s.pressure.braking = true →
          pair.left.state = .running → pair.left.held = false → pair.right.state = .running → pair.right.held = false →
          (quadGet s.view.lanes s.position).left.code ≠ .release →
          (quadGet s.view.lanes s.position).right.code ≠ .release →
          t.view.vref = max pair.left.speed pair.right.speed ∧ t.view.coasting = 0)
      ∧ (∀ (p : Position) (i : Side) (n : Nat), n = 2 * p.val + (match i with | .left => 0 | .right => 1) →
          (t.view.mask.getLsbD n = true ↔ (sideGet (quadGet t.view.lanes p) i).speed.isSome = true
            ∧ (sideGet (quadGet t.view.lanes p) i).code ∈ [LaneCode.hold, .release, .recover, .reapply]))

/-- What vref takes at a sample pair, in general. A lane is a candidate when its speed is present, its code is not RELEASE
and, for an own lane, its input is RUNNING and its sample not held, or, for a peer's, its entry is FRESH. The candidate
value is the highest candidate while braking; else the highest of the stations in the free-rolling set, or without one the
lowest of all. vref moves to it by the ramps, or at once at the first update; without a candidate it falls by Dramp, and
to 0 at the first update; and then the peer floor lifts it to the tolerance below the highest vref a FRESH entry reports
(R54 to R59). -/
def Obligations.VrefTakesCandidateValue : Prop :=
  ∀ (pair : Sides Sample) (s : State), s.unitsOn = true →
    ∃ t, exec (.samplePair pair) s = .next t
      ∧ ∀ (cand : Position → Nat → Prop) (value : Option Nat) (base : Nat),
        (∀ p v, cand p v ↔ ∃ i, (sideGet (quadGet t.view.lanes p) i).speed = some v
          ∧ (sideGet (quadGet t.view.lanes p) i).code ≠ .release
          ∧ (p = s.position → (sideGet pair i).state = .running ∧ (sideGet pair i).held = false)
          ∧ (p ≠ s.position → (quadGet s.view.peers p).state = .fresh)) →
        ((value = none ∧ ∀ p v, ¬ cand p v)
          ∨ (∃ p v, s.pressure.braking = true ∧ value = some v ∧ cand p v ∧ ∀ q w, cand q w → w ≤ v)
          ∨ (∃ p v, s.pressure.braking = false ∧ value = some v ∧ cand p v ∧ s.params.freeRolling.getLsbD p.val = true
            ∧ ∀ q w, s.params.freeRolling.getLsbD q.val = true → cand q w → w ≤ v)
          ∨ (∃ p v, s.pressure.braking = false ∧ value = some v ∧ cand p v
            ∧ (∀ q w, s.params.freeRolling.getLsbD q.val = true → ¬ cand q w) ∧ ∀ q w, cand q w → v ≤ w)) →
        base = (match value with
          | some v => if s.view.firstWindow then v
              else max (s.view.vref - s.params.dramp) (min (s.view.vref + s.params.aramp) v)
          | none => if s.view.firstWindow then 0 else s.view.vref - s.params.dramp) →
        t.view.coasting = (match value with
          | some _ => 0
          | none => if s.view.firstWindow then 1 else min 255 (s.view.coasting + 1))
        ∧ ((∀ p, (quadGet s.view.peers p).state ≠ .fresh) → t.view.vref = base)
        ∧ ∀ p r, (quadGet s.view.peers p).state = .fresh → (quadGet s.view.peers p).vref = r →
          (∀ q, (quadGet s.view.peers q).state = .fresh → (quadGet s.view.peers q).vref ≤ r) →
          t.view.vref = if base + s.params.tolerance < r then r - s.params.tolerance else base

/-- The standstill condition at a reference update in ACTIVE: vref 0, both own inputs in STANDSTILL, and every FRESH or
STALE entry at vref 0 or in QUIET. While it holds the standstill run lasts, begun at the first such update, and at 3000
ms the change into QUIET is handed; when it fails the run is absent. In every other mode the run is left alone. There
and where the condition fails nothing is handed but the update and the wake notice of a vref above 0 (R174, R176; judged
inside the command, log entry 26). -/
def Obligations.StandstillEntersQuiet : Prop :=
  ∀ (pair : Sides Sample) (s : State), s.unitsOn = true →
    ∃ t update, exec (.samplePair pair) s = .next t
      ∧ update = s.handed.erase (.samplePair pair) ++ [.referenceUpdate ⟨t.view.vref, pair, t.view.mask⟩]
        ++ (if 0 < t.view.vref then [.wakeEvent (.reference t.view.vref)] else [])
      ∧ ∀ still : Bool,
        (still = true ↔ t.view.vref = 0 ∧ pair.left.state = .standstill ∧ pair.right.state = .standstill
          ∧ ∀ p, (quadGet s.view.peers p).state = .fresh ∨ (quadGet s.view.peers p).state = .stale →
            (quadGet s.view.peers p).vref = 0 ∨ (quadGet s.view.peers p).mode = .quiet) →
        (s.fault.mode = .active → still = true → s.standstill = none → t.standstill = some s.now ∧ t.handed = update)
        ∧ (∀ t0, s.fault.mode = .active → still = true → s.standstill = some t0 → t.standstill = some t0
          ∧ t.handed = update ++ if 3000000 ≤ (s.now - t0).toNat then [.quietEntry] else [])
        ∧ (s.fault.mode = .active → still = false →
          t.standstill = none ∧ t.handed = update)
        ∧ (s.fault.mode ≠ .active → t.standstill = s.standstill ∧ t.handed = update)

/-! ## Slip controller -/

/-- One anti-lock cycle, evaluated in full (ACTIVE, braking, vref at least v_min, wheel input not FAILED): FOLLOW from
INACTIVE; lock onset; release at the release threshold λ'; recovery; overrun; relock; reapply with its first cap; and
the reapply's steps up to Pd. A RECOVER that meets none of its rows stays, and below v_entry or with the wheel slowing
less than A1 there is no onset. In SPLIT a channel works from its own wheel, in JOINED channel 1 from the slower one.
Only the channel records and the hand-offs change (R64, R67 to R69, R73 to R75, R77 to R82, R86, R87, R91). In every
mode and phase an update hands, channel 1 before channel 2, the new phase with its cap to the driver and to the view
unit at each change of phase, the new cap alone at a step of the cap; then LOCK_ONSET where HOLD is entered from FOLLOW
or CAPPED, CYCLE_END where FOLLOW is entered from an anti-lock phase, RELEASE_OVERRUN where the release count runs out,
and nothing else (R86, R87). -/
def Obligations.ReferenceUpdateRunsLockCycle : Prop :=
  (∀ (u : RefUpdate) (ch : Channel) (w : Sample) (r : ChannelRec) (pc lam : Nat) (slip : Int) (s : State),
    s.unitsOn = true → s.fault.mode = .active → s.pressure.braking = true → s.params.vMin ≤ u.vref →
    ((s.arrangement = .split ∧ w = (match ch with | .ch1 => u.samples.left | .ch2 => u.samples.right)
        ∧ w.state ≠ .failed)
      ∨ (s.arrangement = .joined ∧ ch = .ch1 ∧ u.samples.left.state ≠ .failed ∧ u.samples.right.state ≠ .failed
        ∧ w = if u.samples.right.speed < u.samples.left.speed then u.samples.right else u.samples.left)) →
    r = chanGet s.slip ch → r.faultWait = false → pc = (chanGet s.pressure.chambers ch).reading →
    lam = max s.params.slipAbs (u.vref * s.params.slipRel / 256) → slip = (u.vref : Int) - w.speed →
    ∃ t, exec (.referenceUpdate u) s = .next t ∧ t = { s with slip := t.slip, handed := t.handed }
      ∧ (r.phase = .inactive → chanGet t.slip ch
          = { r with phase := .follow, falseOnset := 0, releaseCount := 0, stepCount := 0, strong := false })
      ∧ (r.phase = .follow ∨ r.phase = .capped → s.params.vEntry ≤ u.vref → w.accel ≤ -(s.params.a1 : Int) →
          chanGet t.slip ch = { r with phase := .hold, pLock := pc, falseOnset := 0 }
            ∧ .alertHanded .lockOnset (some ch) pc ∈ t.handed ∧ .phaseHandoff ch .hold r.cap ∈ t.handed
            ∧ .lanePhaseCopy ch .hold ∈ t.handed)
      ∧ (r.phase = .follow ∨ r.phase = .capped → u.vref < s.params.vEntry ∨ -(s.params.a1 : Int) < w.accel →
          (chanGet t.slip ch).phase ≠ .hold
            ∧ (r.phase = .follow → s.arrangement = .joined ∨ s.position ≠ 0 → chanGet t.slip ch = r))
      ∧ (r.phase = .hold → ((lam + if s.pressure.economy then s.params.slipAbs else 0 : Nat) : Int) ≤ slip →
          chanGet t.slip ch = { r with phase := .release, releaseCount := 0, strong := false })
      ∧ (r.phase = .release → (s.params.a2 : Int) ≤ w.accel → chanGet t.slip ch
          = { r with phase := .recover, strong := r.strong || decide ((s.params.a3 : Int) ≤ w.accel) })
      ∧ (r.phase = .release → w.accel < (s.params.a2 : Int) → r.releaseCount + 1 < s.params.tRelMax →
          chanGet t.slip ch = { r with releaseCount := r.releaseCount + 1 })
      ∧ (r.phase = .release → w.accel < (s.params.a2 : Int) → s.params.tRelMax ≤ r.releaseCount + 1 →
          chanGet t.slip ch = { r with phase := .hold, releaseCount := r.releaseCount + 1, faultWait := true }
            ∧ .faultNotice (.channelFault .releaseOverrun ch false) ∈ t.handed)
      ∧ (r.phase = .recover → (s.params.a3 : Int) ≤ w.accel → chanGet t.slip ch = { r with strong := true })
      ∧ (r.phase = .recover → w.accel < (s.params.a3 : Int) → w.accel ≤ -(s.params.a1 : Int) →
          chanGet t.slip ch = { r with phase := .release, releaseCount := 0, strong := false })
      ∧ (r.phase = .recover → w.accel < (s.params.a3 : Int) → -(s.params.a1 : Int) < w.accel →
          w.accel < (s.params.a2 : Int) → slip < (lam : Int) → chanGet t.slip ch
          = { r with phase := .reapply, stepCount := 0,
                     cap := min (if s.pressure.economy then r.pLock / 2
                       else if r.strong then r.pLock * 7 / 8 else r.pLock * 3 / 4) s.pressure.pd })
      ∧ (r.phase = .recover → w.accel < (s.params.a3 : Int) → -(s.params.a1 : Int) < w.accel →
          (s.params.a2 : Int) ≤ w.accel ∨ (lam : Int) ≤ slip → chanGet t.slip ch = r)
      ∧ (r.phase = .reapply → w.accel ≤ -(s.params.a1 : Int) →
          chanGet t.slip ch = { r with phase := .hold, pLock := pc, falseOnset := 0 })
      ∧ (∀ cap steps, r.phase = .reapply → -(s.params.a1 : Int) < w.accel →
          (r.stepCount + 1 < s.params.stepPeriod ∧ cap = r.cap ∧ steps = r.stepCount + 1
            ∨ s.params.stepPeriod ≤ r.stepCount + 1 ∧ cap = r.cap + s.params.deltaP ∧ steps = 0) →
          (cap < s.pressure.pd → chanGet t.slip ch = { r with cap := cap, stepCount := steps })
            ∧ (s.pressure.pd ≤ cap → chanGet t.slip ch = { r with phase := .follow, cap := cap, stepCount := steps }
              ∧ .alertHanded .cycleEnd (some ch) 0 ∈ t.handed)))
    ∧ (∀ (u : RefUpdate) (s : State), s.unitsOn = true →
    ∃ (t : State) (handOffs : Channel → List Instr), exec (.referenceUpdate u) s = .next t
      ∧ t.handed = s.handed.erase (.referenceUpdate u) ++ (handOffs .ch1 ++ handOffs .ch2)
      ∧ ∀ (c : Channel) (r x : ChannelRec), r = chanGet s.slip c → x = chanGet t.slip c →
          handOffs c = (if x.phase ≠ r.phase then [.phaseHandoff c x.phase x.cap, .lanePhaseCopy c x.phase]
              else if x.cap ≠ r.cap then [.capStepHandoff c x.cap] else [])
            ++ (if x.phase = .hold ∧ (r.phase = .follow ∨ r.phase = .capped)
                then [.alertHanded .lockOnset (some c) x.pLock]
              else if x.phase = .follow ∧ r.phase ∈ [Phase.hold, .release, .recover, .reapply]
                then [.alertHanded .cycleEnd (some c) 0] else [])
            ++ (if x.phase = .hold ∧ r.phase = .release ∧ r.releaseCount < x.releaseCount
                then [Instr.faultNotice (.channelFault .releaseOverrun c false)] else []))

/-- What ends or withholds a cycle at an update: PASSIVE, TEST and the fault-wait mark withhold a channel; a FAILED
wheel input sets the mark and holds a RELEASE; a clear braking flag gives INACTIVE; vref below v_min gives FOLLOW, with
CYCLE_END from an anti-lock phase; a channel INACTIVE or in FOLLOW already then stands unchanged, and an update that
changes neither channel hands nothing; a third false-onset window in HOLD gives FOLLOW with CYCLE_END, and a window in
HOLD that meets neither the release threshold nor the false-onset condition returns the count to 0. In QUIET and HELD,
braking and at v_min or above, INACTIVE becomes FOLLOW and every other phase, cap, count and mark stands. STARTING,
SERVICE, PASSIVE and LATCHED evaluate no channel, JOINED never channel 2 (R65, R66, R69 to R73, R75, R76, R87, R91). -/
def Obligations.ReferenceUpdateEndsCycle : Prop :=
  ∀ (u : RefUpdate) (ch : Channel) (w : Sample) (failed : Bool) (r : ChannelRec) (lam : Nat) (s : State),
    s.unitsOn = true →
    ((s.arrangement = .split ∧ w = (match ch with | .ch1 => u.samples.left | .ch2 => u.samples.right)
        ∧ failed = decide (w.state = .failed))
      ∨ (s.arrangement = .joined ∧ ch = .ch1
        ∧ failed = (decide (u.samples.left.state = .failed) || decide (u.samples.right.state = .failed))
        ∧ w = if u.samples.right.speed < u.samples.left.speed then u.samples.right else u.samples.left)) →
    r = chanGet s.slip ch → lam = max s.params.slipAbs (u.vref * s.params.slipRel / 256) →
    ∃ t, exec (.referenceUpdate u) s = .next t ∧ t = { s with slip := t.slip, handed := t.handed }
      ∧ (s.arrangement = .joined → t.slip.ch2 = s.slip.ch2)
      ∧ (t.slip = s.slip → t.handed = s.handed.erase (.referenceUpdate u))
      ∧ (s.fault.mode ∈ [Mode.starting, .service, .passive, .latched] → chanGet t.slip ch = r)
      ∧ (r.phase = .passive ∨ r.phase = .test ∨ r.faultWait = true → chanGet t.slip ch = r)
      ∧ (s.fault.mode ∈ [Mode.active, .quiet, .held] → r.phase ≠ .passive → r.phase ≠ .test → r.faultWait = false →
          (failed = true → chanGet t.slip ch
            = { r with faultWait := true, phase := if r.phase = .release then .hold else r.phase })
          ∧ (failed = false → s.pressure.braking = false → r.phase ≠ .inactive → chanGet t.slip ch
            = { r with phase := .inactive, falseOnset := 0, releaseCount := 0, stepCount := 0, strong := false,
                       yawSpent := false })
          ∧ (failed = false → s.pressure.braking = false → r.phase = .inactive → chanGet t.slip ch = r)
          ∧ (failed = false → s.pressure.braking = true → u.vref < s.params.vMin → r.phase = .follow →
            chanGet t.slip ch = r)
          ∧ (failed = false → s.pressure.braking = true → u.vref < s.params.vMin → r.phase ≠ .follow →
            chanGet t.slip ch
              = { r with phase := .follow, falseOnset := 0, releaseCount := 0, stepCount := 0, strong := false }
            ∧ (.alertHanded .cycleEnd (some ch) 0 ∈ t.handed ↔ r.phase ∈ [Phase.hold, .release, .recover, .reapply]
              ∨ .alertHanded .cycleEnd (some ch) 0 ∈ s.handed)))
      ∧ (s.fault.mode = .active → s.pressure.braking = true → s.params.vMin ≤ u.vref → failed = false →
          r.phase = .hold → r.faultWait = false → (u.vref : Int) - w.speed < ((lam / 2 : Nat) : Int) →
          -((s.params.a1 / 2 : Nat) : Int) < w.accel →
          (r.falseOnset < 2 → chanGet t.slip ch = { r with falseOnset := r.falseOnset + 1 })
            ∧ (2 ≤ r.falseOnset → chanGet t.slip ch = { r with phase := .follow, falseOnset := 0 }
              ∧ .alertHanded .cycleEnd (some ch) 0 ∈ t.handed))
      ∧ (s.fault.mode = .active → s.pressure.braking = true → s.params.vMin ≤ u.vref → failed = false →
          r.phase = .hold → r.faultWait = false →
          (u.vref : Int) - w.speed < ((lam + if s.pressure.economy then s.params.slipAbs else 0 : Nat) : Int) →
          ((lam / 2 : Nat) : Int) ≤ (u.vref : Int) - w.speed ∨ w.accel ≤ -((s.params.a1 / 2 : Nat) : Int) →
          chanGet t.slip ch = { r with falseOnset := 0 })
      ∧ (s.fault.mode ∈ [Mode.quiet, .held] → s.pressure.braking = true → s.params.vMin ≤ u.vref → failed = false →
          r.phase ≠ .passive → r.phase ≠ .test → r.faultWait = false → chanGet t.slip ch
            = if r.phase = .inactive
              then { r with phase := .follow, falseOnset := 0, releaseCount := 0, stepCount := 0, strong := false }
              else r)

/-- The yaw cap of the steer axle, at station 0 in SPLIT. The condition holds for a channel while the other one stands in
an anti-lock phase, or else while a FRESH peer's lane on the other side carries RELEASE and none on its own side is in the
active mask. A channel in FOLLOW, its yaw-spent mark clear, then enters CAPPED with the other's lock pressure, or its own
chamber pressure, plus the yaw margin, at most Pd; a channel in CAPPED climbs by the yaw step, and returns to FOLLOW with
the mark set when the cap reaches Pd. When the condition fails, a FOLLOW clears the mark, and a CAPPED returns to FOLLOW
with it clear (R83, R84, R85). -/
def Obligations.YawConditionCapsChannel : Prop :=
  ∀ (u : RefUpdate) (ch other : Channel) (own across : Side) (w : Sample) (r x : ChannelRec) (locks peers : Bool) (lock : Nat)
    (s : State), s.unitsOn = true →
    s.fault.mode = .active → s.arrangement = .split → s.startup.position = some 0 → s.pressure.braking = true →
    s.params.vMin ≤ u.vref → (ch = .ch1 ∧ other = .ch2 ∧ own = .left ∧ across = .right
      ∨ ch = .ch2 ∧ other = .ch1 ∧ own = .right ∧ across = .left) → w = sideGet u.samples own →
    w.state ≠ .failed → -(s.params.a1 : Int) < w.accel → r = chanGet s.slip ch → r.faultWait = false →
    x = chanGet s.slip other → (locks = true ↔ x.phase ∈ [Phase.hold, .release, .recover, .reapply]) →
    (peers = true ↔ (∃ p : Position, p ≠ 0 ∧ (quadGet s.view.peers p).state = .fresh
        ∧ (sideGet (quadGet s.view.peers p).lanes across).code = .release)
      ∧ ∀ p : Position, p ≠ 0 → (quadGet s.view.peers p).state = .fresh →
        u.mask.getLsbD (2 * p.val + if own = .left then 0 else 1) = false) →
    lock = (if locks then x.pLock else (chanGet s.pressure.chambers ch).reading) →
    ∃ t, exec (.referenceUpdate u) s = .next t
      ∧ (locks = true ∨ peers = true →
        (r.phase = .follow → r.yawSpent = false → chanGet t.slip ch
            = { r with phase := .capped, cap := min (lock + s.params.yawMargin) s.pressure.pd })
        ∧ (r.phase = .follow → r.yawSpent = true → chanGet t.slip ch = r)
        ∧ (r.phase = .capped → r.cap + s.params.yawStep < s.pressure.pd → chanGet t.slip ch
            = { r with cap := r.cap + s.params.yawStep }
            ∧ (s.params.yawStep ≠ 0 → .capStepHandoff ch (r.cap + s.params.yawStep) ∈ t.handed))
        ∧ (r.phase = .capped → s.pressure.pd ≤ r.cap + s.params.yawStep → chanGet t.slip ch
            = { r with phase := .follow, cap := r.cap + s.params.yawStep, yawSpent := true }))
      ∧ (locks = false → peers = false →
        (r.phase = .follow → chanGet t.slip ch = { r with yawSpent := false })
        ∧ (r.phase = .capped → chanGet t.slip ch = { r with phase := .follow, yawSpent := false }))

/-! ## Pressure loop and valve driver -/

/-- A phase handed applies at once, in its turn (R86). In ACTIVE, QUIET and SERVICE a phase that names a pattern drives
the two solenoids by it, a short-locked one staying off, and ends tracking; CAPPED and REAPPLY begin an episode with the
pattern that stood. In STARTING, HELD, PASSIVE and LATCHED the pattern is PASS and both solenoids are off, whatever the
phase. A switch-on sets a solenoid's check timer to 2000 µs, a switch-off to 10,000 µs. The wound-up mark is cleared on
INACTIVE and on TEST from INACTIVE, the test pattern returns to PASS when the test ends, and the hand-off of the phase
that stands only brings its cap (R93 to R95, R97, R105, R107). A cap step, in its turn, changes the cap alone (R86,
R95). -/
def Obligations.PhaseHandoffDrivesValves : Prop :=
  ∀ (ch : Channel) (p : Phase) (cap : Nat) (d : DriverChan) (s : State), s.begun = true →
    d = chanGet s.driver.chans ch →
    (s.inTurn (.phaseHandoff ch p cap) = true →
    ∃ e, exec (.phaseHandoff ch p cap) s = .next
        { s with handed := s.handed.erase (.phaseHandoff ch p cap),
                 driver := { s.driver with chans := chanSet s.driver.chans ch e } }
      ∧ e.phase = p ∧ e.cap = cap ∧ (p = d.phase → e = { d with cap := cap })
      ∧ (p ≠ d.phase → e.testPattern = (if d.phase = .test then .pass else d.testPattern)
          ∧ e.woundUp = (if p = .inactive ∨ (p = .test ∧ d.phase = .inactive) then false else d.woundUp))
      ∧ (∀ pat, p ≠ d.phase →
          (s.driver.mode ∈ [Mode.active, .quiet, .service] ∧
            (p, pat) ∈ [(Phase.inactive, Pattern.pass), (.follow, .pass), (.passive, .pass), (.hold, .hold),
              (.recover, .hold), (.release, .exhaust), (.test, d.testPattern)])
            ∨ (s.driver.mode ∈ [Mode.starting, .held, .passive, .latched] ∧ pat = .pass) →
          e.pattern = pat ∧ e.tracking = false ∧ e.warning = false ∧ e.errorRun = none
            ∧ e.integrator = d.integrator ∧ e.windUp = d.windUp
            ∧ (e.inlet.on = true ↔ pat ≠ .pass ∧ d.inlet.shortLock = false ∧ (s.arrangement = .split ∨ ch = .ch1))
            ∧ (e.outlet.on = true ↔ pat = .exhaust ∧ d.inlet.shortLock = false ∧ d.outlet.shortLock = false
              ∧ (s.arrangement = .split ∨ ch = .ch1))
            ∧ (∀ v : Valve, (solenoid e v).on = (solenoid d v).on → solenoid e v = solenoid d v)
            ∧ (∀ v : Valve, (solenoid e v).on ≠ (solenoid d v).on → (solenoid d v).shortLock = false →
                solenoid e v = { solenoid d v with
                  on := !(solenoid d v).on, timer := some ⟨s.now, if (solenoid e v).on then 2000 else 10000⟩ }))
      ∧ (p ≠ d.phase → s.driver.mode ∈ [Mode.active, .quiet, .service] → p = .capped ∨ p = .reapply →
          (d.phase = .capped ∨ d.phase = .reapply ∨ d.tracking = false) →
          e = { d with phase := p, cap := cap, integrator := 0, windUp := false, dwellStart := none, errorRun := none,
                       warning := false, spent := false, tracking := true,
                       testPattern := if d.phase = .test then .pass else d.testPattern }))
    ∧ (s.inTurn (.capStepHandoff ch cap) = true → exec (.capStepHandoff ch cap) s = .next
          { s with handed := s.handed.erase (.capStepHandoff ch cap),
                   driver := { s.driver with chans := chanSet s.driver.chans ch { d with cap := cap } } })

/-- A mode change is applied at once: into STARTING, HELD, PASSIVE or LATCHED every pattern becomes PASS with every
solenoid off and any tracking ended; into ACTIVE, QUIET or SERVICE the phase decides, and CAPPED or REAPPLY begins an
episode. A test step is applied at once while the phase is TEST and kept otherwise (R94, R96, R97, R105): R105 says so
of a step handed before the phase becomes TEST, and that one which comes after the phase has left TEST is kept too is
the model's choice (log entry 30). A mode change is taken in its turn (R147). -/
def Obligations.ModeChangeSettlesValves : Prop :=
  ∀ (m : Mode) (ch : Channel) (pat : Pattern) (d : DriverChan) (s : State), d = chanGet s.driver.chans ch →
    s.inTurn (.modeChangeToDriver m) = true →
    (∃ x, exec (.modeChangeToDriver m) s = .next
        { s with handed := s.handed.erase (.modeChangeToDriver m), driver := { mode := m, chans := x } }
      ∧ (m ∈ [Mode.starting, .held, .passive, .latched] →
          (chanGet x ch).pattern = .pass ∧ (chanGet x ch).inlet.on = false ∧ (chanGet x ch).outlet.on = false
            ∧ (chanGet x ch).tracking = false ∧ (chanGet x ch).phase = d.phase ∧ (chanGet x ch).cap = d.cap)
      ∧ (m ∈ [Mode.active, .quiet, .service] → (d.phase = .hold ∨ d.phase = .recover → (chanGet x ch).pattern = .hold)
          ∧ (d.phase = .release → (chanGet x ch).pattern = .exhaust)
          ∧ (d.phase = .capped ∨ d.phase = .reapply → d.tracking = false → chanGet x ch
              = { d with integrator := 0, windUp := false, dwellStart := none, errorRun := none, warning := false,
                         spent := false, tracking := true })
          ∧ (d.phase = .capped ∨ d.phase = .reapply → d.tracking = true → chanGet x ch = d)))
    ∧ ∃ e, exec (.testStep ch pat) s = .next
        { s with handed := s.handed.erase (.testStep ch pat),
                 driver := { s.driver with chans := chanSet s.driver.chans ch e } }
      ∧ e.testPattern = pat
      ∧ (d.phase ≠ .test → e = { d with testPattern := pat })
      ∧ (d.phase = .test → s.driver.mode = .service → e.pattern = pat
          ∧ (e.inlet.on = true ↔ pat ≠ .pass ∧ d.inlet.shortLock = false ∧ (s.arrangement = .split ∨ ch = .ch1))
          ∧ (e.outlet.on = true ↔ pat = .exhaust ∧ d.inlet.shortLock = false ∧ d.outlet.shortLock = false
            ∧ (s.arrangement = .split ∨ ch = .ch1)))

/-- A tracking sample with a good sensor: the integrator takes Ki × e, saturating; the choice from u is applied once the
dwell of 3 ms has passed, with no EXHAUST in SAG or UNDER; and TRACKING is raised once when the error has stood above 300
mbar for 1000 ms. A channel not tracking, or with a FAILED sensor, makes no decision. At the entry to SAG a tracking
channel's EXHAUST becomes HOLD (R98 to R104). -/
def Obligations.ChamberSampleTracksCap : Prop :=
  ∀ (ch : Channel) (pc pd : Nat) (d : DriverChan) (e i u : Int) (choice : Pattern) (s : State),
    d = chanGet s.driver.chans ch → e = ((min d.cap pd : Nat) : Int) - pc →
    i = max (-2147483648) (min 2147483647 (d.integrator + (s.params.ki : Int) * e)) →
    u = (s.params.kp : Int) * e + i / 256 →
    choice = (if (s.params.uOn : Int) ≤ u then .pass
      else if u ≤ -(s.params.uOn : Int) ∧ s.supply.state = .normal then .exhaust else .hold) →
    (d.tracking = true → ∃ f notices, exec (.chamberSample ch pc .good pd) s = .next
        { s with handed := s.handed.erase (.chamberSample ch pc .good pd) ++ notices,
                 driver := { s.driver with chans := chanSet s.driver.chans ch f } }
      ∧ f.integrator = i ∧ f.tracking = true ∧ f.phase = d.phase ∧ f.cap = d.cap
      ∧ (i ≠ d.integrator + (s.params.ki : Int) * e → f.windUp = true ∧ f.woundUp = true)
      ∧ (i = d.integrator + (s.params.ki : Int) * e → f.windUp = d.windUp ∧ f.woundUp = d.woundUp)
      ∧ (d.dwellStart = none → f.pattern = choice)
      ∧ (∀ t0, d.dwellStart = some t0 → 3000 ≤ (s.now - t0).toNat → f.pattern = choice)
      ∧ (∀ t0, d.dwellStart = some t0 → (s.now - t0).toNat < 3000 → f.pattern = d.pattern ∧ f.dwellStart = some t0)
      ∧ (f.pattern ≠ d.pattern → f.dwellStart = some s.now)
      ∧ (e.natAbs ≤ 300 → f.errorRun = none ∧ f.warning = d.warning ∧ notices = [])
      ∧ (∀ t0, 300 < e.natAbs → d.errorRun = some t0 → f.errorRun = some t0
          ∧ (300000 ≤ (s.now - t0).toNat → f.warning = true)
          ∧ (1000000 ≤ (s.now - t0).toNat → d.spent = false → f.spent = true
            ∧ notices = [.faultNotice (.channelFault .tracking ch false)])
          ∧ ((s.now - t0).toNat < 1000000 ∨ d.spent = true → f.spent = d.spent ∧ notices = []))
      ∧ (300 < e.natAbs → d.errorRun = none → f.errorRun = some s.now ∧ notices = []))
    ∧ (∀ sensor, d.tracking = false ∨ sensor = .failed → exec (.chamberSample ch pc sensor pd) s
        = .next { s with handed := s.handed.erase (.chamberSample ch pc sensor pd) })
    ∧ ∃ x, exec .sagEntry s = .next
        { s with handed := s.handed.erase .sagEntry, driver := { s.driver with chans := x } }
      ∧ (d.tracking = true → d.pattern = .exhaust → (chanGet x ch).pattern = .hold
          ∧ (chanGet x ch).outlet.on = false ∧ (chanGet x ch).dwellStart = some s.now)
      ∧ (d.tracking = false ∨ d.pattern ≠ .exhaust → chanGet x ch = d)

/-- An over-current switches the solenoid off and sets its short lock, an inlet's taking the outlet with it, whose check
timer is set as at any switch-off, raises VALVE_SHORT and leaves the rest of the channel as it was; a check below 150
mA, or with no load found, counts, the third in a row sets the open mark and raises VALVE_OPEN, and a passing one
returns the count to 0. An over-current on a solenoid that is off is void (log entry 25), as is a check that is not due
(log entry 7). A finding on a channel whose phase as handed is PASSIVE is marked for recording (R106 to R108, R110). -/
def Obligations.SolenoidFindingsAreRaised : Prop :=
  ∀ (m : Time) (ch : Channel) (v : Valve) (milliamps : Nat) (load fails : Bool) (x : Solenoid) (d : DriverChan)
    (s : State), d = chanGet s.driver.chans ch → x = (match v with | .inlet => d.inlet | .outlet => d.outlet) →
    fails = (if x.on then decide (milliamps < 150) else !load) →
    (x.on = true → ∃ e, exec (.overCurrent m ch v) s = .next
        { s with now := m, driver := { s.driver with chans := chanSet s.driver.chans ch e },
                 handed := s.handed ++ [.faultNotice (.channelFault .valveShort ch (d.phase == .passive))] }
      ∧ (v = .inlet → e = { d with
          inlet := { x with on := false, shortLock := true, timer := none }
          outlet := if d.outlet.on then
              { d.outlet with on := false, timer := if d.outlet.shortLock then none else some ⟨m, 10000⟩ }
            else d.outlet })
      ∧ (v = .outlet → e = { d with outlet := { x with on := false, shortLock := true, timer := none } }))
    ∧ (x.on = false → exec (.overCurrent m ch v) s = .next { s with now := m })
    ∧ (timerDue x.timer m = true → ∃ e notices, exec (.checkTimerExpiry m ch v milliamps load) s = .next
        { s with now := m, driver := { s.driver with chans := chanSet s.driver.chans ch e },
                 handed := s.handed ++ notices }
      ∧ ∃ y, e = (match v with | .inlet => { d with inlet := y } | .outlet => { d with outlet := y })
        ∧ y.on = x.on ∧ y.shortLock = x.shortLock ∧ y.timer = some ⟨m, 10000⟩
        ∧ (x.openCount < 3 → fails = false → y.openCount = 0 ∧ y.openMark = x.openMark ∧ notices = [])
        ∧ (x.openCount < 2 → fails = true → y.openCount = x.openCount + 1 ∧ y.openMark = x.openMark ∧ notices = [])
        ∧ (x.openCount = 2 → fails = true → x.openMark = false → y.openCount = 3 ∧ y.openMark = true
            ∧ notices = [.faultNotice (.channelFault .valveOpen ch (d.phase == .passive))])
        ∧ (x.openCount = 3 → x.openMark = true → y.openCount = 3 ∧ y.openMark = true ∧ notices = []))
    ∧ (timerDue x.timer m = false → exec (.checkTimerExpiry m ch v milliamps load) s = .next { s with now := m })

/-! ## Link controller -/

/-- A frame as a station sends it is read back and dispatched: an ALERT and a STATUS go to the view unit, a SERVICE_REQ
of 3 bytes from position 7 to the service responder once that runs (one of another length then counts a receive error,
log entry 23; before the listen expiry either is dropped, R185), a SERVICE_REPLY nowhere; any other frame of the own
position raises POSITION_CLASH, and any other is counted as foreign. The station's own read-back, which the model tells
by a mark (log entry 13), is not handed on. A frame whose check disagrees, or with a dominant bit in its end field,
counts one receive error and hands nothing. After each the line settles, needing 3. An invalid length of 15 counts a
receive error and the line settles, needing 10. Bits read while SETTLING frame nothing: they hand and count nothing, a
dominant bit returns the count to 0, and with enough recessive bits after it the line is IDLE (R113, R115, R116, R127,
R128, R185, R198). -/
def Obligations.ReceivedFrameIsDispatched : Prop :=
  (∀ (m : Time) (f : Frame) (kind : Nat) (sender : Fin 8) (s s1 : State), s.unitsOn = true →
    s.link.line = .idle ∨ s.link.line = .frame → f.payload.length ≤ 14 →
    kind = f.contention.toNat / 8 % 8 → sender.val = f.contention.toNat % 8 →
    s1 = { s with now := m, link := { s.link with line := .settling 3 0, ownSending := false, stuck := 0,
                                                  stuckTaken := false } } →
    (f.check ≠ crcBits (checkedBits f.contention f.payload) → exec (.receiveFrame m (frameBits f)) s = .next
      { s1 with link := { s1.link with stats := { s1.link.stats with
          receiveErrors := min 65535 (s.link.stats.receiveErrors + 1) } } })
    ∧ (f.check = crcBits (checkedBits f.contention f.payload) →
      (s.link.ownSending = true → exec (.receiveFrame m (frameBits f)) s = .next s1)
      ∧ (s.link.ownSending = false →
        (kind = 0 → exec (.receiveFrame m (frameBits f)) s
          = .next { s1 with handed := s.handed ++ [.alertReceived sender f.payload] })
        ∧ (kind = 1 → exec (.receiveFrame m (frameBits f)) s
          = .next { s1 with handed := s.handed ++ [.statusReceived sender f.payload] })
        ∧ (kind = 6 → sender = 7 → s.startup.stage = .listening → exec (.receiveFrame m (frameBits f)) s = .next s1)
        ∧ (∀ a b c, kind = 6 → sender = 7 → f.payload = [a, b, c] → s.startup.stage ≠ .listening →
          exec (.receiveFrame m (frameBits f)) s = .next { s1 with handed := s.handed ++ [
              if b = 1#8 then .readRecord ⟨3, a, c⟩ else if b = 2#8 then .readStats ⟨3, a, c⟩
              else if b = 3#8 then .clear ⟨3, a, c⟩ else if b = 4#8 then .restart ⟨3, a, c⟩
              else if b = 5#8 ∧ (c = 1#8 ∨ c = 2#8) then .valveTest ⟨3, a, c⟩ else .badRequest b ⟨3, a, c⟩] })
        ∧ (kind = 6 → sender = 7 → f.payload.length ≠ 3 → s.startup.stage ≠ .listening →
          exec (.receiveFrame m (frameBits f)) s = .next { s1 with link := { s1.link with stats := { s1.link.stats with
                receiveErrors := min 65535 (s.link.stats.receiveErrors + 1) } } })
        ∧ (kind = 7 → sender.val ≠ s.position.val → exec (.receiveFrame m (frameBits f)) s = .next s1)
        ∧ (kind ≠ 0 → kind ≠ 1 → sender.val = s.position.val → exec (.receiveFrame m (frameBits f)) s
          = .next { s1 with handed := s.handed ++ [.faultNotice .positionClash] })
        ∧ (kind ∈ [2, 3, 4, 5] ∨ kind = 6 ∧ sender ≠ 7 → sender.val ≠ s.position.val →
          exec (.receiveFrame m (frameBits f)) s = .next { s1 with link := { s1.link with stats :=
            { s1.link.stats with foreignFrames := min 65535 (s.link.stats.foreignFrames + 1) } } })))
    ∧ (∀ tail : List Bit, tail.length = 7 → false ∈ tail →
      ∃ stuck taken, exec
        (.receiveFrame m ([false] ++ checkedBits f.contention f.payload ++ natBits 16 f.check.toNat ++ tail)) s
        = .next { s1 with link := { s1.link with
            stuck := stuck, stuckTaken := taken
            stats := { s1.link.stats with receiveErrors := min 65535 (s.link.stats.receiveErrors + 1) } } })
    ∧ (∀ field : List Bit, field.length = 8 →
      exec (.receiveFrame m ([false] ++ field ++ [true, true, true, true])) s
        = .next { s1 with link := { s1.link with
            line := .settling 10 0
            stats := { s1.link.stats with receiveErrors := min 65535 (s.link.stats.receiveErrors + 1) } } }))
    ∧ (∀ (m : Time) (bits : List Bit) (n k : Nat) (s : State), s.unitsOn = true → s.link.line = .settling n k →
    ∃ t, exec (.receiveFrame m bits) s = .next t
      ∧ t = { s with now := m, link := { s.link with
          line := t.link.line, stuck := t.link.stuck, stuckTaken := t.link.stuckTaken, idleSince := t.link.idleSince,
          awaitIdle := t.link.awaitIdle } }
      ∧ ∀ j, bits = false :: List.replicate j true →
          (j < n → t.link.line = .settling n j) ∧ (1 ≤ j → n ≤ j → t.link.line = .idle))

/-- The line comes back by itself: the recessive bits still needed after a frame bring it to IDLE; a run of 10 ms
dominant raises LINK_SILENT once, by the model's mark (log entry 12), and leaves the line settling for 10 bits; and the
silence of a SILENT transmitter ends after its second, with the consecutive count at 0; where the line became IDLE at
that same moment and the idle was taken first, the station waits for the next idle, which ends the wait (R113, R114,
R125, R126; log entry 27). A silence expiry that is not due, and bits or a stuck line before the units are started, are
void (log entry 7). -/
def Obligations.LineAndTransmitterRecover : Prop :=
  ∀ (m : Time) (s : State),
    (∀ need seen n, s.unitsOn = true → s.link.line = .settling need seen → seen + n + 1 = need →
      exec (.lineIdle m (List.replicate (n + 1) true)) s = .next
        { s with now := m, link := { s.link with
            line := .idle, stuck := 0, stuckTaken := false, idleSince := some m, awaitIdle := false } })
    ∧ (∀ need seen, s.unitsOn = true → s.link.line = .settling need seen → exec (.lineIdle m [false]) s = .next
        { s with now := m, link := { s.link with line := .settling need 0, stuck := min 10000 (s.link.stuck + 4) } })
    ∧ (s.unitsOn = true → s.link.stuckTaken = false → exec (.stuckExpiry m) s = .next
        { s with now := m, link := { s.link with line := .settling 10 0, stuck := 10000, stuckTaken := true },
                 handed := s.handed ++ [.faultNotice (.observation .linkSilent)] })
    ∧ (s.link.stuckTaken = true → exec (.stuckExpiry m) s = .next { s with now := m })
    ∧ (s.link.tx = .silent → timerDue s.link.silence m = true → exec (.silenceExpiry m) s = .next
        { s with now := m, link := { s.link with
            tx := .enabled, consecutive := 0, silence := none
            awaitIdle := decide (s.link.line = .idle ∧ s.link.idleSince = some m) } })
    ∧ (s.link.tx ≠ .silent ∨ timerDue s.link.silence m = false → exec (.silenceExpiry m) s = .next { s with now := m })
    ∧ (s.unitsOn = false → exec (.stuckExpiry m) s = .next { s with now := m }
      ∧ ∀ bits, exec (.lineIdle m bits) s = .next { s with now := m })

/-- An ENABLED transmitter starts on an IDLE line the first slot that offers a frame: an ALERT of every queued alert at
urgency 0, a STATUS with the sequence sent count plus 1 at urgency 1 or 2 as a channel stands in an anti-lock phase or
not, a reply at urgency 3. The frame enters the in-flight place with the model's mark of an own frame (log entry 13).
Nothing starts without a frame to offer, nor while the transmitter is not ENABLED, the line not IDLE or a frame in flight,
nor while the station waits for the next idle (log entry 27), nor an ALERT before the last group's outcome is taken (log
entry 14; R115, R116, R118 to R120, R125, R126, R137, R141). -/
def Obligations.TransmitStartTakesFirstSlot : Prop :=
  (∀ (m : Time) (p : Nat) (s : State), p = s.position.val → s.link.tx = .enabled → s.link.line = .idle →
    s.link.awaitIdle = false → s.link.status.inFlight = none → s.link.alert = none → s.link.reply.inFlight = none →
    s.composer.group = [] →
    (s.composer.queue ≠ [] → ∃ f, exec (.transmitStart m) s = .next
      { s with now := m, composer := { s.composer with group := s.composer.queue, queue := [] },
               link := { s.link with line := .frame, ownSending := true, alert := some f } }
      ∧ f.contention = BitVec.ofNat 8 p ∧ f.check = crcBits (checkedBits f.contention f.payload)
      ∧ f.payload = encodeAlerts s.composer.queue)
    ∧ (∀ r urgency, s.composer.queue = [] → s.link.status.waiting = some r →
      urgency = (if s.slip.ch1.phase ∈ [Phase.hold, .release, .recover, .reapply]
        ∨ s.slip.ch2.phase ∈ [Phase.hold, .release, .recover, .reapply] then 1 else 2) → ∃ f,
      exec (.transmitStart m) s = .next
        { s with now := m, link := { s.link with
            line := .frame, ownSending := true, status := { inFlight := some ⟨r, f⟩, waiting := none } } }
      ∧ f.contention = BitVec.ofNat 8 (64 * urgency + 8 + p) ∧ f.payload = encodeStatus (s.composer.sent + 1) r
      ∧ f.check = crcBits (checkedBits f.contention f.payload))
    ∧ (∀ r, s.composer.queue = [] → s.link.status.waiting = none → s.link.reply.waiting = some r → ∃ f,
      exec (.transmitStart m) s = .next
        { s with now := m, link := { s.link with
            line := .frame, ownSending := true, reply := { inFlight := some ⟨r, f⟩, waiting := none } } }
      ∧ f.contention = BitVec.ofNat 8 (248 + p) ∧ f.payload = r.payload
      ∧ f.check = crcBits (checkedBits f.contention f.payload))
    ∧ (s.composer.queue = [] → s.link.status.waiting = none → s.link.reply.waiting = none →
      exec (.transmitStart m) s = .next { s with now := m }))
    ∧ ∀ (m : Time) (s : State), (s.link.tx ≠ .enabled ∨ s.link.line ≠ .idle ∨ s.link.awaitIdle = true ∨ s.framesInFlight ≠ 0
        ∨ (s.composer.group ≠ [] ∧ s.link.status.waiting = none ∧ s.link.reply.waiting = none)) →
      exec (.transmitStart m) s = .next { s with now := m }

/-- A frame in flight that loses contention or meets a transmit error leaves the line: a STATUS or reply goes back to
waiting, or is dropped behind a newer one, and an ALERT's outcome goes to the report composer. Contention is lost at a
recessive contention bit read dominant; any other mismatch is an error: the start bit, a dominant contention bit, and
every later bit. Only an error counts, and the eighth in a row silences the transmitter for 1000 ms and raises LINK_SILENT
(R117, R118, R121 to R123, R126). The frame is then no more the station's own to the model's mark (log entry 13), an error
at the start bit leaves the line IDLE, and a loss or error at a bit that gives none is void (log entry 21). -/
def Obligations.LossAndErrorReturnFrame : Prop :=
  ∀ (m : Time) (k : Fin 8) (j : Nat) (f : Frame) (l1 : Link) (lost failed : List Instr) (s : State),
    ((∃ (x : InFlight StatusReport) (w : Option StatusReport), s.link.alert = none ∧ s.link.status.inFlight = some x
        ∧ s.link.reply.inFlight = none ∧ f = x.frame
        ∧ w = (match s.link.status.waiting with | some r => some r | none => some x.body)
        ∧ l1 = { s.link with status := { inFlight := none, waiting := w }, ownSending := false }
        ∧ lost = [] ∧ failed = [])
      ∨ (s.link.alert = some f ∧ s.link.status.inFlight = none ∧ s.link.reply.inFlight = none
        ∧ l1 = { s.link with alert := none, ownSending := false }
        ∧ lost = [.alertReturned .lost] ∧ failed = [.alertReturned .failed])
      ∨ ∃ (x : InFlight Reply) (w : Option Reply), s.link.alert = none ∧ s.link.status.inFlight = none
        ∧ s.link.reply.inFlight = some x ∧ f = x.frame
        ∧ w = (match s.link.reply.waiting with | some r => some r | none => some x.body)
        ∧ l1 = { s.link with reply := { inFlight := none, waiting := w }, ownSending := false }
        ∧ lost = [] ∧ failed = []) →
    ((frameBits f)[k.val + 1]? = some true →
        exec (.contentionLoss m k) s = .next { s with now := m, link := l1, handed := s.handed ++ lost }
        ∧ exec (.transmitError m (k.val + 1)) s = .next { s with now := m })
    ∧ ((frameBits f)[k.val + 1]? = some false → exec (.contentionLoss m k) s = .next { s with now := m })
    ∧ (j = 0 ∨ (1 ≤ j ∧ j ≤ 8 ∧ (frameBits f)[j]? = some false) ∨ (9 ≤ j ∧ j < (frameBits f).length) →
      (s.link.consecutive < 7 → exec (.transmitError m j) s = .next
        { s with now := m
                 link := { l1 with
                   line := if j = 0 then .idle else s.link.line
                   consecutive := s.link.consecutive + 1
                   stats := { s.link.stats with transmitErrors := min 65535 (s.link.stats.transmitErrors + 1) } }
                 handed := s.handed ++ failed })
      ∧ (s.link.consecutive = 7 → exec (.transmitError m j) s = .next
        { s with now := m
                 link := { l1 with
                   line := if j = 0 then .idle else s.link.line
                   consecutive := 8, tx := .silent, silence := some ⟨m, 1000000⟩
                   stats := { s.link.stats with transmitErrors := min 65535 (s.link.stats.transmitErrors + 1) } }
                 handed := s.handed ++ failed ++ [.faultNotice (.observation .linkSilent)] }))

/-- A frame that completed without error leaves the line, returns the consecutive count to 0 and is reported to the block
that supplied it, the restart reply by name. The success of a STATUS raises the sent count by 1 modulo 256 (R117, R118,
R124, R137). -/
def Obligations.SuccessIsHandedBack : Prop :=
  (∀ (m : Time) (s : State), s.framesInFlight = 1 →
    ∃ c, exec (.transmitSuccess m) s = .next
      { s with now := m
               link := { s.link with
                 consecutive := 0, alert := none, status := { s.link.status with inFlight := none },
                 reply := { s.link.reply with inFlight := none } }
               handed := s.handed ++ [c] }
      ∧ (s.link.alert.isSome = true → c = .alertSent)
      ∧ (s.link.status.inFlight.isSome = true → c = .statusSuccessNotice)
      ∧ ∀ x, s.link.reply.inFlight = some x → c = .replySuccessNotice x.body.restartReply)
    ∧ ∀ s : State, exec .statusSuccessNotice s = .next
      { s with handed := s.handed.erase .statusSuccessNotice
               composer := { s.composer with sent := BitVec.ofNat 8 ((s.composer.sent.toNat + 1) % 256) } }

/-! ## Report composer -/

/-- At the expiry of the report timer a STATUS composed from every owner's state as it stands takes the STATUS slot's
waiting place, and the timer is set to 10 ms, or 500 ms in QUIET (R117, R132 to R136). An expiry that is not due is
void, as is one of a composer not yet started (R132). The mode is the fault unit's as it stands, also before the
composer has taken its change (the model's reading: log entry 31). A change into or out of QUIET, taken in its turn
(R147), composes a STATUS at once and sets the report timer to 500 ms or 10 ms, where the composer has been started; and
it sets the next pressure sample 50 ms or 1 ms after the change (R32, R132). -/
def Obligations.StatusIsComposed : Prop :=
  (∀ (m : Time) (own : Sides Lane) (s : State), timerDue s.composer.timer m = true →
    own = quadGet s.view.lanes s.position → ∃ r, exec (.reportTimerExpiry m) s = .next
      { s with now := m, link := { s.link with status := { s.link.status with waiting := some r } },
               composer := { s.composer with
                 timer := some ⟨m, if s.fault.mode = .quiet then 500000 else 10000⟩ } }
      ∧ r.mode = s.fault.mode ∧ r.arrangement = s.arrangement ∧ r.vref = s.view.vref
      ∧ r.demand = (if s.pressure.demand.state = .good then some (s.pressure.demand.reading / 100) else none)
      ∧ r.reservoir = (if s.pressure.reservoir.state = .good then some (s.pressure.reservoir.reading / 100) else none)
      ∧ r.left = { own.left with accel := if own.left.speed.isSome then max (-128) (min 127 own.left.accel) else 0 }
      ∧ r.right = { own.right with accel := if own.right.speed.isSome then max (-128) (min 127 own.right.accel) else 0 }
      ∧ r.economy = s.pressure.economy ∧ r.alone = s.view.alone
      ∧ (r.trackingWarning = true ↔ ∃ c, (chanGet s.driver.chans c).warning = true
          ∨ (chanGet s.driver.chans c).woundUp = true)
      ∧ (r.supplySag = true ↔ s.supply.state ≠ .normal) ∧ (r.coasting = true ↔ 40 < s.view.coasting)
      ∧ r.maskLeft = s.view.mask.getLsbD (2 * s.position.val)
      ∧ r.maskRight = s.view.mask.getLsbD (2 * s.position.val + 1))
    ∧ (∀ (m : Time) (s : State), timerDue s.composer.timer m = false →
      exec (.reportTimerExpiry m) s = .next { s with now := m })
    ∧ (∀ (into : Bool) (s : State), s.inTurn (.quietReportChange into) = true →
    s.inTurn (.samplePeriodChange into) = true →
    (s.composer.timer.isSome = true → exec (.quietReportChange into) s = .next
      { s with handed := s.handed.erase (.quietReportChange into)
               link := { s.link with status := { s.link.status with waiting := some s.composed } }
               composer := { s.composer with timer := some ⟨s.now, if into then 500000 else 10000⟩ } })
    ∧ (s.composer.timer = none → exec (.quietReportChange into) s
        = .next { s with handed := s.handed.erase (.quietReportChange into) })
    ∧ (s.unitsOn = true → exec (.samplePeriodChange into) s = .next
      { s with handed := s.handed.erase (.samplePeriodChange into),
               pressure := { s.pressure with timer := some ⟨s.now, if into then 50000 else 1000⟩ } }))

/-- The outcome SENT empties the in-flight group and changes nothing else; alerts that joined meanwhile stay in the
queue, and the ALERT slot offers them at the next idle (R142), unless the station waits for a later one after a silence
(R126). -/
def Obligations.AlertSentEmptiesGroup : Prop :=
  (∀ s : State, exec .alertSent s = .next
    { s with handed := s.handed.erase .alertSent, composer := { s.composer with group := [] } })
    ∧ ∀ (m : Time) (s t : State), exec .alertSent s = .next t → s.composer.queue ≠ [] → s.link.tx = .enabled →
      s.link.line = .idle → s.link.awaitIdle = false → s.framesInFlight = 0 →
      ∃ u, exec (.transmitStart m) t = .next u ∧ u.composer.group = s.composer.queue ∧ u.composer.queue = []

/-- An alert joins the queue at its tail with its side by R139 and a lock pressure in units of 100 mbar; one of the same
kind and channel already waiting takes its value instead; with four waiting the oldest is dropped and counted (R139,
R140). The alerts of the fault unit join in their turn (R155). A channel alert of channel 2 in JOINED is not queued (log
entry 20). -/
def Obligations.AlertJoinsQueue : Prop :=
  ∀ (k : AlertKind) (ch : Option Channel) (value : Nat) (side : AlertSide) (a : Alert) (c : Instr) (s : State),
    s.begun = true → c = .alertHanded k ch value → s.inTurn c = true →
    (ch = none → side = .none) → (s.arrangement = .split → ch = some .ch1 → side = .left) →
    (s.arrangement = .split → ch = some .ch2 → side = .right) →
    (s.arrangement = .joined → ch ≠ none → side = .both) →
    a = { kind := k, channel := ch, side := side, value := if k = .lockOnset then value / 100 else value } →
    (s.arrangement = .split ∨ ch ≠ some .ch2 →
      (s.composer.queue.length < 4 → (∀ b ∈ s.composer.queue, b.kind ≠ k ∨ b.channel ≠ ch) →
        s.link.stats.alertDrops ≤ 65535 → exec c s = .next
        { s with handed := s.handed.erase c, composer := { s.composer with queue := s.composer.queue ++ [a] } })
      ∧ (∀ b, b ∈ s.composer.queue → b.kind = k → b.channel = ch → s.link.stats.alertDrops ≤ 65535 →
        exec c s = .next
        { s with handed := s.handed.erase c
                 composer := { s.composer with queue := s.composer.queue.map fun x =>
                   if x.kind = k ∧ x.channel = ch then { x with value := a.value } else x } })
      ∧ (∀ old rest, s.composer.queue = old :: rest → rest.length = 3 →
        (∀ b ∈ s.composer.queue, b.kind ≠ k ∨ b.channel ≠ ch) → exec c s = .next
        { s with handed := s.handed.erase c, composer := { s.composer with queue := rest ++ [a] }
                 link := { s.link with stats := { s.link.stats with
                   alertDrops := min 65535 (s.link.stats.alertDrops + 1) } } }))
    ∧ (s.arrangement = .joined → ch = some .ch2 → exec c s = .next { s with handed := s.handed.erase c })

/-- A group that was lost or failed goes back ahead of the alerts that joined meanwhile; where one of the same kind and
channel joined, the returned one takes its value and stands for both; while more than four stand, the oldest are dropped
and counted (R143). -/
def Obligations.ReturnedGroupGoesAhead : Prop :=
  ∀ (o : AlertReturn) (merged : List Alert) (s : State),
    merged = (s.composer.group.map fun a =>
        match s.composer.queue.find? fun b => decide (a.kind = b.kind ∧ a.channel = b.channel) with
        | some b => { a with value := b.value }
        | none => a)
      ++ s.composer.queue.filter (fun b => s.composer.group.all fun a =>
        decide (b.kind ≠ a.kind ∨ b.channel ≠ a.channel)) →
    s.link.stats.alertDrops ≤ 65535 → ∃ drops kept, exec (.alertReturned o) s = .next
      { s with handed := s.handed.erase (.alertReturned o)
               composer := { s.composer with group := [], queue := kept }
               link := { s.link with stats := { s.link.stats with
                 alertDrops := min 65535 (s.link.stats.alertDrops + drops) } } }
      ∧ (merged.length ≤ 4 → kept = merged ∧ drops = 0)
      ∧ (4 < merged.length → kept.length = 4 ∧ kept <:+ merged ∧ drops + 4 = merged.length)

/-! ## Fault unit -/

/-- A channel fault in STARTING, ACTIVE, QUIET or SERVICE forces its channel PASSIVE with CHANNEL_PASSIVE, and a channel
in TEST gives the test-abort notice. With another usable channel the mode stands; with none the station becomes PASSIVE
by ALL_CHANNELS: channel 2 is forced in JOINED too, the mode change is handed to the driver, out of QUIET to the
pressure unit and the report composer, and out of SERVICE to a running test; a forced channel in TEST gives the notice
too (R154), and the standstill run ends at a change out of ACTIVE (R174). On a channel already PASSIVE the fault only
enters the fault memory. The empty record captures it (R88, R147 to R150, R155, R160, R161, R163). Events of no fixed
order stand in `handed` as the model lists them (log entry 1). -/
def Obligations.ChannelFaultForcesChannel : Prop :=
  ∀ (cause : ChannelCause) (code : Nat) (ch other : Channel) (r o : ChannelRec) (c : Instr) (f : FaultUnit) (s : State)
    (testRuns : Bool) (forced : ChannelRec → ChannelRec) (told : List Instr),
    s.begun = true → c = .faultNotice (.channelFault cause ch false) →
    s.fault.mode ∈ [Mode.starting, .active, .quiet, .service] → other ≠ ch → r = chanGet s.slip ch →
    o = chanGet s.slip other →
    (cause, code) ∈ [(ChannelCause.speedWire, 1), (.speedJump, 2), (.speedDead, 3), (.chamberSensor, 4), (.valveOpen, 5),
      (.valveShort, 6), (.releaseOverrun, 7), (.tracking, 8)] →
    f = { s.fault with
      seen := s.fault.seen ||| BitVec.ofNat 16 (2 ^ (code - 1))
      record := match s.fault.record with
        | some x => some x
        | none => some { cause := .channel cause, channel := some ch, phase := some r.phase, modeBefore := s.fault.mode,
                         time := s.fault.millis, vref := s.view.vref, latch := false } } →
    testRuns = (match s.service.test with | .running _ _ _ => true | .asking _ => false | .none => false) →
    (∀ x, forced x = { x with phase := .passive, falseOnset := 0, releaseCount := 0, stepCount := 0, strong := false,
                              yawSpent := false, faultWait := false }) →
    told = s.handed.erase c ++ [.phaseHandoff ch .passive r.cap, .lanePhaseCopy ch .passive,
        .alertHanded .channelPassive (some ch) code] ++ (if r.phase = .test then [.abortEvent .channelFault] else []) →
    (r.phase = .passive → exec c s = .next { s with handed := s.handed.erase c, fault := f })
    ∧ (r.phase ≠ .passive → o.phase ≠ .passive → s.arrangement = .split ∨ other = .ch1 → exec c s = .next
      { s with fault := f, slip := chanSet s.slip ch (forced r), handed := told })
    ∧ (r.phase ≠ .passive → o.phase = .passive ∨ s.arrangement = .joined ∧ other = .ch2 → exec c s = .next
      { s with
        fault := { f with mode := .passive, seen := f.seen ||| 4096#16 }
        slip := chanSet (chanSet s.slip ch (forced r)) other (if o.phase = .passive then o else forced o)
        standstill := if s.fault.mode = .active then none else s.standstill
        handed := told ++ [.modeChangeToDriver .passive]
          ++ (if s.fault.mode = .quiet then [.samplePeriodChange false, .quietReportChange false] else [])
          ++ (if s.fault.mode = .service ∧ testRuns = true then [.abortEvent (.modeChange .passive)] else [])
          ++ (if o.phase = .passive then [] else [.phaseHandoff other .passive o.cap, .lanePhaseCopy other .passive])
          ++ (if o.phase = .test ∧ ¬(s.fault.mode = .service ∧ testRuns = true) then [.abortEvent (.modeChange .passive)]
            else [])
          ++ [.alertHanded .modulePassive none 13] })

/-- Falling back: a channel fault in HELD makes the station PASSIVE and in PASSIVE makes it LATCHED, promoted;
CONFIG_BAD gives PASSIVE, or LATCHED from PASSIVE; POSITION_CLASH gives LATCHED in any mode, its own alert handed before
MODULE_LATCHED. In LATCHED a channel fault and CONFIG_BAD are recorded only, and a clash hands its alert and changes no
mode or phase. Each is stated whole. The notice's own code enters the cause-seen set, with PROMOTED at a promotion
(R148, R163). An empty record captures the notice as it was found, and in LATCHED the record carries its latch flag
(R160 to R162). Every channel is forced PASSIVE (R88, R154). The mode change is handed to the driver, out of QUIET to
the pressure unit and the report composer, and to the service responder where a test ends (R147); the standstill run
ends at a change out of ACTIVE. A fault in HELD on a channel in TEST gives the test-abort notice (log entry 19). Every
alert is handed in the order of the rules (R151 to R153, R155); events of no fixed order stand in `handed` as the model
lists them (log entry 1). -/
def Obligations.FaultsPromoteAndLatch : Prop :=
  ∀ (n : Notice) (code : Nat) (cause : Cause) (channel : Option Channel) (phase : Option Phase) (s : State)
    (testRuns : Bool) (forced : ChannelRec → ChannelRec) (tell : Channel → List Instr) (moved : Mode → List Instr)
    (record : Mode → Option FaultRecord) (fallen : Mode → BitVec 16 → List Instr → State),
    s.begun = true →
    (n = .configBad ∧ code = 11 ∧ cause = .configBad ∧ channel = none ∧ phase = none
      ∨ n = .positionClash ∧ code = 12 ∧ cause = .positionClash ∧ channel = none ∧ phase = none
      ∨ ∃ x ch, n = .channelFault x ch false ∧ cause = .channel x ∧ channel = some ch
        ∧ phase = some (chanGet s.slip ch).phase
        ∧ (x, code) ∈ [(ChannelCause.speedWire, 1), (.speedJump, 2), (.speedDead, 3), (.chamberSensor, 4), (.valveOpen, 5),
          (.valveShort, 6), (.releaseOverrun, 7), (.tracking, 8)]) →
    testRuns = (match s.service.test with | .running _ _ _ => true | .asking _ => false | .none => false) →
    (∀ r, forced r = if r.phase = .passive then r else
      { r with phase := .passive, falseOnset := 0, releaseCount := 0, stepCount := 0, strong := false, yawSpent := false,
               faultWait := false }) →
    (∀ ch, tell ch = if (chanGet s.slip ch).phase = .passive then []
      else [.phaseHandoff ch .passive (chanGet s.slip ch).cap, .lanePhaseCopy ch .passive]) →
    (∀ m, moved m = [.modeChangeToDriver m]
      ++ (if s.fault.mode = .quiet then [.samplePeriodChange false, .quietReportChange false] else [])
      ++ (if s.fault.mode = .service ∧ testRuns = true then [.abortEvent (.modeChange m)] else [])
      ++ tell .ch1 ++ tell .ch2
      ++ (if (s.slip.ch1.phase = .test ∨ s.slip.ch2.phase = .test) ∧ ¬(s.fault.mode = .service ∧ testRuns = true)
        then [.abortEvent (.modeChange m)] else [])) →
    (∀ m, record m = match s.fault.record with
      | some x => some { x with latch := x.latch || decide (m = .latched) }
      | none => some { cause := cause, channel := channel, phase := phase, modeBefore := s.fault.mode,
                       time := s.fault.millis, vref := s.view.vref, latch := decide (m = .latched) }) →
    (∀ m extra handed, fallen m extra handed = { s with
      fault := { s.fault with
        mode := m, seen := s.fault.seen ||| BitVec.ofNat 16 (2 ^ (code - 1)) ||| extra, record := record m }
      slip := ⟨forced s.slip.ch1, forced s.slip.ch2⟩
      standstill := if s.fault.mode = .active then none else s.standstill
      handed := s.handed.erase (.faultNotice n) ++ handed }) →
    (∀ ch other r o, channel = some ch → s.fault.mode = .held → other ≠ ch → r = chanGet s.slip ch →
        o = chanGet s.slip other →
        exec (.faultNotice n) s = .next (fallen .passive 8192#16
          ((if r.phase = .passive then [] else tell ch ++ [.alertHanded .channelPassive (some ch) code])
            ++ (if r.phase = .test then [.abortEvent .channelFault] else [])
            ++ [.modeChangeToDriver .passive] ++ tell other
            ++ (if o.phase = .test then [.abortEvent (.modeChange .passive)] else [])
            ++ [.alertHanded .modulePassive none 14])))
      ∧ (channel ≠ none → s.fault.mode = .passive → exec (.faultNotice n) s
        = .next (fallen .latched 8192#16 (moved .latched ++ [.alertHanded .moduleLatched none 14])))
      ∧ (n = .configBad → s.fault.mode ≠ .passive → s.fault.mode ≠ .latched → exec (.faultNotice n) s
        = .next (fallen .passive 0#16 (moved .passive ++ [.alertHanded .modulePassive none 11])))
      ∧ (n = .configBad → s.fault.mode = .passive → exec (.faultNotice n) s
        = .next (fallen .latched 0#16 (moved .latched ++ [.alertHanded .moduleLatched none 11])))
      ∧ (n = .positionClash → s.fault.mode ≠ .latched → exec (.faultNotice n) s
        = .next (fallen .latched 0#16
          ([.alertHanded .positionClash none 12] ++ moved .latched ++ [.alertHanded .moduleLatched none 12])))
      ∧ (s.fault.mode = .latched → exec (.faultNotice n) s = .next
        { s with
          fault := { s.fault with
            seen := s.fault.seen ||| BitVec.ofNat 16 (2 ^ (code - 1)), record := record .latched }
          handed := s.handed.erase (.faultNotice n)
            ++ (if n = .positionClash then [.alertHanded .positionClash none 12] else []) })

/-- A reversible cause enters the held-cause set in any mode; from ACTIVE, QUIET or SERVICE the mode becomes HELD with
MODULE_HELD, the change handed to the driver, out of QUIET to the pressure unit and the report composer, and out of
SERVICE to a running test, and the standstill run ends at a change out of ACTIVE (R147, R155); in every other mode the
mode stands and nothing is handed. An empty record captures the cause. When the last cause clears in HELD the mode
returns to ACTIVE with MODULE_RECOVERED; while the other cause is still held, or in any other mode, the cause leaves the
set and the mode stands. An observation and a notice marked for recording change no mode; the observation captures no
record, the marked notice captures an empty one. Where the mode is LATCHED, a captured record has its latch flag, as
StepKeepsFaultLaw has it. Events of no fixed order stand in `handed` as the model lists them (log entry 1) (R148, R157,
R158, R160 to R163). -/
def Obligations.ReversibleCauseHolds : Prop :=
  ∀ (cause : Reversible) (code : Nat) (before after : HeldSet) (s : State) (testRuns : Bool),
    s.begun = true → before = s.fault.held →
    testRuns = (match s.service.test with | .running _ _ _ => true | .asking _ => false | .none => false) →
    (cause = .demandLost ∧ code = 9 ∧ after = { before with demandLost := true }
      ∨ cause = .supplyUnder ∧ code = 10 ∧ after = { before with supplyUnder := true }) →
    exec (.faultNotice (.reversible cause)) s = .next { s with
        fault := { s.fault with
          mode := if s.fault.mode ∈ [Mode.active, .quiet, .service] then .held else s.fault.mode
          held := after, seen := s.fault.seen ||| BitVec.ofNat 16 (2 ^ (code - 1))
          record := match s.fault.record with
            | some x => some { x with latch := x.latch || decide (s.fault.mode = .latched) }
            | none => some ⟨.reversible cause, none, none, s.fault.mode, s.fault.millis, s.view.vref,
                decide (s.fault.mode = .latched)⟩ }
        standstill := if s.fault.mode = .active then none else s.standstill
        handed := s.handed.erase (.faultNotice (.reversible cause))
          ++ (if s.fault.mode ∈ [Mode.active, .quiet, .service] then
              [.modeChangeToDriver .held]
              ++ (if s.fault.mode = .quiet then [.samplePeriodChange false, .quietReportChange false] else [])
              ++ (if s.fault.mode = .service ∧ testRuns = true then [.abortEvent (.modeChange .held)] else [])
              ++ [.alertHanded .moduleHeld none code]
            else []) }
    ∧ (after = before → s.fault.mode = .held →
      (cause = .demandLost → before.supplyUnder = false) → (cause = .supplyUnder → before.demandLost = false) →
      exec (.causeCleared cause) s = .next
        { s with fault := { s.fault with held := ⟨false, false⟩, mode := .active }
                 handed := s.handed.erase (.causeCleared cause)
                   ++ [.modeChangeToDriver .active, .alertHanded .moduleRecovered none 0] })
    ∧ (∀ left, after = before → left = (if cause = .demandLost then { before with demandLost := false }
          else { before with supplyUnder := false }) → s.fault.mode ≠ .held ∨ left ≠ ⟨false, false⟩ →
      exec (.causeCleared cause) s = .next
        { s with fault := { s.fault with held := left }, handed := s.handed.erase (.causeCleared cause) })
    ∧ (after ≠ before → exec (.causeCleared cause) s
        = .next { s with handed := s.handed.erase (.causeCleared cause) })
    ∧ (∀ o bit, o = .linkSilent ∧ bit = 16384#16 ∨ o = .auxSensor ∧ bit = 32768#16 →
        (s.fault.mode = .latched → ∀ r, s.fault.record = some r → r.latch = true) →
      exec (.faultNotice (.observation o)) s = .next
        { s with handed := s.handed.erase (.faultNotice (.observation o))
                 fault := { s.fault with seen := s.fault.seen ||| bit } })
    ∧ (∀ x ch, s.fault.record = none → exec (.faultNotice (.channelFault x ch true)) s = .next
        { s with handed := s.handed.erase (.faultNotice (.channelFault x ch true))
                 fault := { s.fault with
                   seen := s.fault.seen ||| BitVec.ofNat 16 (2 ^ (causeCode (.channel x) - 1))
                   record := some ⟨.channel x, some ch, some (chanGet s.slip ch).phase, s.fault.mode, s.fault.millis,
                     s.view.vref, decide (s.fault.mode = .latched)⟩ } })
    ∧ ∀ x ch, s.fault.record ≠ none →
      (s.fault.mode = .latched → ∀ r, s.fault.record = some r → r.latch = true) →
      exec (.faultNotice (.channelFault x ch true)) s = .next
        { s with handed := s.handed.erase (.faultNotice (.channelFault x ch true))
                 fault := { s.fault with seen := s.fault.seen ||| BitVec.ofNat 16 (2 ^ (causeCode (.channel x) - 1)) } }

/-- A notice of SAG sets the supply event flag; a service CLEAR empties the record and the cause-seen set and clears the
flag, and leaves mode, held-cause set and phases; the millisecond count rises by 1 at each 1000 µs, on the grid the
model keeps (log entry 24), and stands at its end. Each leaves all else as it was (R160, R164, R165). A tick that is not
due is void (log entry 7). -/
def Obligations.FaultMemoryEvents : Prop :=
  ∀ (m : Time) (w : Timer) (s : State),
    exec .supplySagNotice s = .next
      { s with handed := s.handed.erase .supplySagNotice, fault := { s.fault with supplyEvent := true } }
    ∧ exec .serviceClear s = .next
      { s with handed := s.handed.erase .serviceClear
               fault := { s.fault with record := none, seen := 0, supplyEvent := false } }
    ∧ (s.fault.milliTimer = some w → w.period ≤ (m - w.setAt).toNat → s.fault.millis ≤ 4294967295 →
      exec (.millisecondCountTick m) s = .next
        { s with now := m
                 fault := { s.fault with
                   millis := if s.fault.millis = 4294967295 then 4294967295 else s.fault.millis + 1
                   milliTimer := some { w with setAt := w.setAt + BitVec.ofNat 32 w.period } } })
    ∧ (timerDue s.fault.milliTimer m = false → exec (.millisecondCountTick m) s = .next { s with now := m })

/-- The mode changes the quiet control and the service responder hand are accepted only from the mode each starts from,
and handed on to the driver and, into or out of QUIET, to the pressure unit and the report composer; a refused quiet
change ends the standstill run, and the responder is told whether its entry was accepted. A wake event hands QUIET to
ACTIVE in QUIET, ends the standstill run in ACTIVE and does nothing in another mode; an acceptance of mode QUIET or of
vref 0, and an update of vref 0, is no wake event and does nothing in any mode (R146, R147, R174, R176). -/
def Obligations.HandedModeChanges : Prop :=
  ∀ s : State,
    (s.fault.mode = .active → exec .quietEntry s = .next
      { s with fault := { s.fault with mode := .quiet }, standstill := none,
               handed := s.handed.erase .quietEntry
                 ++ [.modeChangeToDriver .quiet, .samplePeriodChange true, .quietReportChange true] })
    ∧ (s.fault.mode ≠ .active → exec .quietEntry s
        = .next { s with standstill := none, handed := s.handed.erase .quietEntry })
    ∧ (s.fault.mode = .quiet → exec .quietExit s = .next
      { s with fault := { s.fault with mode := .active },
               handed := s.handed.erase .quietExit
                 ++ [.modeChangeToDriver .active, .samplePeriodChange false, .quietReportChange false] })
    ∧ (s.fault.mode ≠ .quiet → exec .quietExit s
        = .next { s with standstill := none, handed := s.handed.erase .quietExit })
    ∧ (s.fault.mode = .active → exec .serviceEntry s = .next
      { s with fault := { s.fault with mode := .service }, standstill := none,
               handed := s.handed.erase .serviceEntry ++ [.modeChangeToDriver .service, .serviceAnswer true] })
    ∧ (s.fault.mode = .quiet → exec .serviceEntry s = .next
      { s with fault := { s.fault with mode := .service },
               handed := s.handed.erase .serviceEntry ++ [.modeChangeToDriver .service, .samplePeriodChange false,
                 .quietReportChange false, .serviceAnswer true] })
    ∧ (s.fault.mode ≠ .active → s.fault.mode ≠ .quiet → exec .serviceEntry s
        = .next { s with handed := s.handed.erase .serviceEntry ++ [.serviceAnswer false] })
    ∧ (s.fault.mode = .service → exec .serviceExit s = .next
      { s with fault := { s.fault with mode := .active },
               handed := s.handed.erase .serviceExit ++ [.modeChangeToDriver .active] })
    ∧ (s.fault.mode ≠ .service → exec .serviceExit s = .next { s with handed := s.handed.erase .serviceExit })
    ∧ (∀ w, w = .reference 0 ∨ (∃ o v, w = .acceptance o v ∧ (o = .quiet ∨ v = 0)) →
      exec (.wakeEvent w) s = .next { s with handed := s.handed.erase (.wakeEvent w) })
    ∧ ∀ w, (∃ i, w = .edge i) ∨ w = .request ∨ w = .brakingRise ∨ (∃ v, w = .reference v ∧ 0 < v)
        ∨ (∃ o v, w = .acceptance o v ∧ o ≠ .quiet ∧ 0 < v) →
      (s.fault.mode = .quiet → exec (.wakeEvent w) s
        = .next { s with handed := s.handed.erase (.wakeEvent w) ++ [.quietExit] })
      ∧ (s.fault.mode = .active → exec (.wakeEvent w) s
        = .next { s with handed := s.handed.erase (.wakeEvent w), standstill := none })
      ∧ (s.fault.mode ≠ .quiet → s.fault.mode ≠ .active → exec (.wakeEvent w) s
        = .next { s with handed := s.handed.erase (.wakeEvent w) })

/-! ## Service responder -/

/-- Requests for the own position, once the responder runs: READ_RECORD and READ_STATS are answered DONE with 12 data
bytes, laid out as section 12.4 gives them; CLEAR, when the station stands free and still, zeroes the link statistics,
hands the clearing on and replies DONE; RESTART sets its mark and the 100 ms timer and replies with the restart reply; a
kind not known, or a VALVE_TEST whose argument names no channel, is refused with BAD_REQUEST. While busy, moving or
braking, CLEAR and RESTART are refused with that reason, which changes nothing else. Another target is ignored, and so
is every request before the responder runs (R163, R185, R189 to R193, R198). While the clearing of a CLEAR is handed and
not yet taken, a READ_RECORD is answered with the record as that clearing leaves it, so that one answered after the
CLEAR shows an empty record (R192): that it is answered so before the fault unit has taken the clearing is the model's
choice, log entry 1. -/
def Obligations.RequestsAreAnswered : Prop :=
  (∀ (req : ServiceReq) (p : Nat) (w : Instr) (b : Nat → Byte) (replied : Instr → List Byte → State) (s : State),
    s.responderOn = true → req.length = 3 → p = s.position.val → w = .wakeEvent .request →
    (∀ n, b n = BitVec.ofNat 8 n) →
    (∀ c bytes, replied c bytes = { s with
      handed := s.handed.erase c ++ [w]
      link := { s.link with reply := { s.link.reply with waiting := some ⟨bytes, false⟩ } } }) →
    (req.byte0.toNat % 8 = p →
      (∀ x cause chan mode phase flags, s.handed.contains .serviceClear = false → s.fault.record = some x →
        (x.cause, cause) ∈ [(Cause.channel .speedWire, 1), (.channel .speedJump, 2), (.channel .speedDead, 3),
          (.channel .chamberSensor, 4), (.channel .valveOpen, 5), (.channel .valveShort, 6),
          (.channel .releaseOverrun, 7), (.channel .tracking, 8), (.reversible .demandLost, 9),
          (.reversible .supplyUnder, 10), (.configBad, 11), (.positionClash, 12), (.allChannels, 13), (.promoted, 14),
          (.observation .linkSilent, 15), (.observation .auxSensor, 16)] →
        (x.channel, chan) ∈ [(none, 0), (some Channel.ch1, 1), (some .ch2, 2)] →
        (x.modeBefore, mode) ∈ [(Mode.starting, 0), (.active, 1), (.quiet, 2), (.service, 3), (.held, 4), (.passive, 5),
          (.latched, 6)] →
        (x.phase, phase) ∈ [(some Phase.inactive, 0), (some .follow, 1), (some .capped, 2), (some .hold, 3),
          (some .release, 4), (some .recover, 5), (some .reapply, 6), (some .passive, 7), (some .test, 8), (none, 15)] →
        flags = 128 + (if x.latch then 64 else 0) + (if s.startup.clamped then 32 else 0)
          + (if s.fault.supplyEvent then 16 else 0) →
        exec (.readRecord req) s = .next (replied (.readRecord req)
          [b 1, b p, b flags, b cause, b (64 * chan + 8 * mode), b (16 * phase), b (x.time / 16777216),
            b (x.time / 65536), b (x.time / 256), b x.time, b (x.vref % 16384 / 256), b x.vref,
            b (s.fault.seen.toNat / 256), b s.fault.seen.toNat]))
      ∧ (∀ flags seen, s.handed.contains .serviceClear = false ∧ s.fault.record = none
            ∧ flags = (if s.startup.clamped then 32 else 0) + (if s.fault.supplyEvent then 16 else 0)
            ∧ seen = s.fault.seen.toNat
          ∨ s.handed.contains .serviceClear = true ∧ flags = (if s.startup.clamped then 32 else 0) ∧ seen = 0 →
        exec (.readRecord req) s = .next (replied (.readRecord req)
          [b 1, b p, b flags, 0, 0, b 240, 0, 0, 0, 0, 0, 0, b (seen / 256), b seen]))
      ∧ (∀ x, x = s.link.stats → exec (.readStats req) s = .next (replied (.readStats req)
          [b 2, b p, b (x.receiveErrors / 256), b x.receiveErrors, b (x.foreignFrames / 256), b x.foreignFrames,
            b (x.transmitErrors / 256), b x.transmitErrors, b (x.alertDrops / 256), b x.alertDrops,
            b (x.duplicates / 256), b x.duplicates, b (x.gaps / 256), b x.gaps]))
      ∧ (s.service.test = .none → s.service.restartMark = false → s.view.vref = 0 → s.pressure.braking = false →
        exec (.clear req) s = .next
          { s with
            handed := s.handed.erase (.clear req) ++ [w, .serviceClear]
            link := { s.link with
              stats := ⟨0, 0, 0, 0, 0, 0⟩
              reply := { s.link.reply with waiting := some ⟨[b 3, b p], false⟩ } } }
        ∧ exec (.restart req) s = .next
          { s with
            handed := s.handed.erase (.restart req) ++ [w]
            link := { s.link with reply := { s.link.reply with waiting := some ⟨[b 4, b p], true⟩ } }
            service := { s.service with restartMark := true, restartTimer := some ⟨s.now, 100000⟩ } })
      ∧ (∀ k : Byte, k.toNat = 0 ∨ 5 < k.toNat ∨ (k.toNat = 5 ∧ (req.arg.toNat = 0 ∨ 2 < req.arg.toNat)) →
        exec (.badRequest k req) s = .next (replied (.badRequest k req) [k, b (232 + p)]))
      ∧ ∀ c kind why, (c = .clear req ∧ kind = 3 ∨ c = .restart req ∧ kind = 4) →
          (why = 3 ∧ (s.service.test ≠ .none ∨ s.service.restartMark = true))
            ∨ (why = 1 ∧ s.service.test = .none ∧ s.service.restartMark = false ∧ s.view.vref ≠ 0)
            ∨ (why = 2 ∧ s.service.test = .none ∧ s.service.restartMark = false ∧ s.view.vref = 0
              ∧ s.pressure.braking = true) →
          exec c s = .next (replied c [b kind, b (192 + 8 * why + p)]))
    ∧ (req.byte0.toNat % 8 ≠ p → ∀ k,
        ∀ c ∈ [Instr.readRecord req, .readStats req, .clear req, .restart req, .valveTest req, .badRequest k req],
        exec c s = .next { s with handed := s.handed.erase c }))
    ∧ ∀ (req : ServiceReq) (k : Byte) (s : State), s.responderOn = false →
        ∀ c ∈ [Instr.readRecord req, .readStats req, .clear req, .restart req, .valveTest req, .badRequest k req],
        exec c s = .next { s with handed := s.handed.erase c }

/-- A VALVE_TEST on a used INACTIVE channel of a free and still station with a NORMAL supply asks the fault unit for
SERVICE; an argument that names no used channel is refused with BAD_REQUEST; else the first case that fits refuses it,
and changes nothing else: BUSY, MOVING, BRAKING (or either channel not INACTIVE or PASSIVE), SUPPLY, or BAD_REQUEST on a
PASSIVE channel. The answer accepted, with the channels still at rest, starts the test: the channel becomes TEST, the
first HOLD is handed to the driver, and the reply is STARTED; refused, the reply is BUSY; where either channel has moved
it ends with SERVICE handed back, the reply BAD_REQUEST for a PASSIVE channel and BRAKING otherwise (R89, R105, R189,
R190, R194). An answer taken while the responder does not ask is void (log entry 7). -/
def Obligations.ValveTestAsksAndStarts : Prop :=
  ∀ (req : ServiceReq) (ch other : Channel) (k p : Nat) (r : ChannelRec) (s : State),
    other ≠ ch → p = s.position.val → r = chanGet s.slip ch → (ch = .ch1 ∧ k = 1 ∨ ch = .ch2 ∧ k = 2) →
    (s.responderOn = true → req.length = 3 → req.byte0.toNat % 8 = p →
      (req.arg = BitVec.ofNat 8 k → s.arrangement = .split ∨ ch = .ch1 → s.service.test = .none →
        s.service.restartMark = false → s.view.vref = 0 → s.pressure.braking = false → r.phase = .inactive →
        (chanGet s.slip other).phase = .inactive ∨ (chanGet s.slip other).phase = .passive →
        s.supply.state = .normal → exec (.valveTest req) s = .next
          { s with handed := s.handed.erase (.valveTest req) ++ [.wakeEvent .request, .serviceEntry]
                   service := { s.service with test := .asking ch } })
      ∧ (req.arg.toNat = 0 ∨ 2 < req.arg.toNat ∨ (req.arg.toNat = 2 ∧ s.arrangement = .joined) →
        exec (.valveTest req) s = .next
          { s with handed := s.handed.erase (.valveTest req) ++ [.wakeEvent .request]
                   link := { s.link with reply := { s.link.reply with
                     waiting := some ⟨[5#8, BitVec.ofNat 8 (232 + p)], false⟩ } } })
      ∧ (∀ (why : Nat) (free still rest : Prop), req.arg = BitVec.ofNat 8 k → s.arrangement = .split ∨ ch = .ch1 →
        (free ↔ s.service.test = .none ∧ s.service.restartMark = false) → (still ↔ s.view.vref = 0) →
        (rest ↔ s.pressure.braking = false ∧ (r.phase = .inactive ∨ r.phase = .passive)
          ∧ ((chanGet s.slip other).phase = .inactive ∨ (chanGet s.slip other).phase = .passive)) →
        (why = 3 ∧ ¬free) ∨ (why = 1 ∧ free ∧ ¬still) ∨ (why = 2 ∧ free ∧ still ∧ ¬rest)
          ∨ (why = 4 ∧ free ∧ still ∧ rest ∧ s.supply.state ≠ .normal)
          ∨ (why = 5 ∧ free ∧ still ∧ rest ∧ s.supply.state = .normal ∧ r.phase = .passive) →
        exec (.valveTest req) s = .next
          { s with handed := s.handed.erase (.valveTest req) ++ [.wakeEvent .request]
                   link := { s.link with reply := { s.link.reply with
                     waiting := some ⟨[5#8, BitVec.ofNat 8 (192 + 8 * why + p)], false⟩ } } }))
    ∧ (∀ accepted, (∀ c, s.service.test ≠ .asking c) → exec (.serviceAnswer accepted) s
        = .next { s with handed := s.handed.erase (.serviceAnswer accepted) })
    ∧ (s.service.test = .asking ch →
      (r.phase = .inactive → (chanGet s.slip other).phase = .inactive ∨ (chanGet s.slip other).phase = .passive →
        exec (.serviceAnswer true) s = .next
          { s with slip := chanSet s.slip ch { r with phase := .test }
                   service := { s.service with test := .running ch 1 .hold, stepTimer := some ⟨s.now, 100000⟩ }
                   handed := s.handed.erase (.serviceAnswer true)
                     ++ [.phaseHandoff ch .test r.cap, .lanePhaseCopy ch .test, .testStep ch .hold]
                   link := { s.link with reply := { s.link.reply with
                     waiting := some ⟨[5#8, BitVec.ofNat 8 (64 + p), BitVec.ofNat 8 k], false⟩ } } })
      ∧ (r.phase ≠ .inactive ∨
          ((chanGet s.slip other).phase ≠ .inactive ∧ (chanGet s.slip other).phase ≠ .passive) →
        exec (.serviceAnswer true) s = .next
          { s with service := { s.service with test := .none, stepTimer := none }
                   handed := s.handed.erase (.serviceAnswer true) ++ [.serviceExit]
                   link := { s.link with reply := { s.link.reply with
                     waiting := some
                       ⟨[5#8, BitVec.ofNat 8 (192 + (if r.phase = .passive then 40 else 16) + p)], false⟩ } } })
      ∧ exec (.serviceAnswer false) s = .next
          { s with service := { s.service with test := .none, stepTimer := none }
                   handed := s.handed.erase (.serviceAnswer false)
                   link := { s.link with reply := { s.link.reply with
                     waiting := some ⟨[5#8, BitVec.ofNat 8 (216 + p)], false⟩ } } })

/-- A running test goes through HOLD and EXHAUST for 100 ms each and PASS for 300 ms, three rounds; the expiry of the
last PASS frees the channel, hands SERVICE back and replies DONE. An edge, a braking rise or an entry to SAG aborts it
at once and replies ABORTED with the round and step reached; a change of mode into HELD, taken in its turn (R147),
aborts it and leaves the mode, and one into PASSIVE or LATCHED finds the channel forced. A channel the fault unit has
already forced PASSIVE stays PASSIVE at the test's end and at every abort, and the reply and the hand-back of SERVICE
come as otherwise. With no test running, or while the test is only asked for, an abort event does nothing (R105, R195,
R196), and neither does a step expiry, nor one that is not due (log entry 7). -/
def Obligations.ValveTestRunsAndAborts : Prop :=
  ∀ (m : Time) (a : AbortEvent) (ch : Channel) (k p round stepCode : Nat) (x : TestStep) (data : List Byte)
    (r : ChannelRec) (s : State),
    p = s.position.val → r = chanGet s.slip ch → (ch = .ch1 ∧ k = 1 ∨ ch = .ch2 ∧ k = 2) →
    data = [5#8, BitVec.ofNat 8 (128 + p), BitVec.ofNat 8 k, BitVec.ofNat 8 (16 * round + stepCode)] →
    s.inTurn (.abortEvent a) = true → (x, stepCode) ∈ [(TestStep.hold, 0), (.exhaust, 1), (.pass, 2)] →
    (s.service.test = .running ch round x →
      (timerDue s.service.stepTimer m = true →
        (∀ y round2 pat micros,
          (x, y, round2, pat, micros) ∈ [(TestStep.hold, TestStep.exhaust, round, Pattern.exhaust, 100000),
            (.exhaust, .pass, round, .pass, 300000), (.pass, .hold, round + 1, .hold, 100000)] →
          round2 ≤ 3 → exec (.stepTimerExpiry m) s = .next
            { s with now := m, handed := s.handed ++ [.testStep ch pat]
                     service := { s.service with test := .running ch round2 y, stepTimer := some ⟨m, micros⟩ } })
        ∧ (x = .pass → round = 3 → r.phase = .test → exec (.stepTimerExpiry m) s = .next
            { s with now := m, slip := chanSet s.slip ch { r with phase := .inactive }
                     service := { s.service with test := .none, stepTimer := none }
                     handed := s.handed ++ [.phaseHandoff ch .inactive r.cap, .lanePhaseCopy ch .inactive, .serviceExit]
                     link := { s.link with reply := { s.link.reply with
                       waiting := some ⟨[5#8, BitVec.ofNat 8 p, BitVec.ofNat 8 k], false⟩ } } })
        ∧ (x = .pass → round = 3 → r.phase ≠ .test → exec (.stepTimerExpiry m) s = .next
            { s with now := m, service := { s.service with test := .none, stepTimer := none }
                     handed := s.handed ++ [.serviceExit]
                     link := { s.link with reply := { s.link.reply with
                       waiting := some ⟨[5#8, BitVec.ofNat 8 p, BitVec.ofNat 8 k], false⟩ } } }))
      ∧ ((∃ i, a = .edge i) ∨ a = .brakingRise ∨ a = .sagEntry → r.phase ≠ .test → exec (.abortEvent a) s = .next
          { s with service := { s.service with test := .none, stepTimer := none }
                   handed := s.handed.erase (.abortEvent a) ++ [.serviceExit]
                   link := { s.link with reply := { s.link.reply with waiting := some ⟨data, false⟩ } } })
      ∧ (a = .modeChange .held → r.phase ≠ .test → exec (.abortEvent a) s = .next
          { s with service := { s.service with test := .none, stepTimer := none }
                   handed := s.handed.erase (.abortEvent a)
                   link := { s.link with reply := { s.link.reply with waiting := some ⟨data, false⟩ } } })
      ∧ ((∃ i, a = .edge i) ∨ a = .brakingRise ∨ a = .sagEntry → r.phase = .test → exec (.abortEvent a) s = .next
          { s with slip := chanSet s.slip ch { r with phase := .inactive }
                   service := { s.service with test := .none, stepTimer := none }
                   handed := s.handed.erase (.abortEvent a)
                     ++ [.phaseHandoff ch .inactive r.cap, .lanePhaseCopy ch .inactive, .serviceExit]
                   link := { s.link with reply := { s.link.reply with waiting := some ⟨data, false⟩ } } })
      ∧ (a = .modeChange .held → r.phase = .test → exec (.abortEvent a) s = .next
          { s with slip := chanSet s.slip ch { r with phase := .inactive }
                   service := { s.service with test := .none, stepTimer := none }
                   handed := s.handed.erase (.abortEvent a) ++ [.phaseHandoff ch .inactive r.cap, .lanePhaseCopy ch .inactive]
                   link := { s.link with reply := { s.link.reply with waiting := some ⟨data, false⟩ } } })
      ∧ (a = .modeChange .passive ∨ a = .modeChange .latched → exec (.abortEvent a) s = .next
          { s with service := { s.service with test := .none, stepTimer := none }
                   handed := s.handed.erase (.abortEvent a)
                   link := { s.link with reply := { s.link.reply with waiting := some ⟨data, false⟩ } } })
      ∧ (a = .channelFault → exec (.abortEvent a) s = .next
          { s with service := { s.service with test := .none, stepTimer := none }
                   handed := s.handed.erase (.abortEvent a) ++ [.serviceExit]
                   link := { s.link with reply := { s.link.reply with waiting := some ⟨data, false⟩ } } }))
    ∧ (s.service.test = .none ∨ (∃ d, s.service.test = .asking d) →
      exec (.abortEvent a) s = .next { s with handed := s.handed.erase (.abortEvent a) })
    ∧ (timerDue s.service.stepTimer m = false ∨ s.service.test = .none ∨ (∃ d, s.service.test = .asking d) →
      exec (.stepTimerExpiry m) s = .next { s with now := m })

end
end

