-- ==== Sys2Proof/Laws/Frame.lean ====
section
/-! SUPPORT. What each operation on the state leaves as it is, block by block: a proof about a command cites these and
never unfolds a record update. An operation stands after those it calls. -/

namespace Sys2Proof.Machine

@[simp] theorem State.hand_frame (s : State) (cs : List Instr) :
    (s.hand cs).now = s.now ∧ (s.hand cs).freeIndex = s.freeIndex ∧ (s.hand cs).speed = s.speed
      ∧ (s.hand cs).pressure = s.pressure ∧ (s.hand cs).view = s.view ∧ (s.hand cs).slip = s.slip
      ∧ (s.hand cs).driver = s.driver ∧ (s.hand cs).link = s.link ∧ (s.hand cs).composer = s.composer
      ∧ (s.hand cs).fault = s.fault ∧ (s.hand cs).supply = s.supply ∧ (s.hand cs).standstill = s.standstill
      ∧ (s.hand cs).startup = s.startup ∧ (s.hand cs).service = s.service ∧ (s.hand cs).pending = s.pending :=
  ⟨rfl, rfl, rfl, rfl, rfl, rfl, rfl, rfl, rfl, rfl, rfl, rfl, rfl, rfl, rfl⟩

@[simp] theorem State.powerOn_frame (s : State) :
    (s.powerOn).freeIndex = s.freeIndex ∧ (s.powerOn).pending = s.pending :=
  ⟨rfl, rfl⟩

@[simp] theorem State.setChannel_frame (s : State) (c : Channel) (r : ChannelRec) :
    (s.setChannel c r).now = s.now ∧ (s.setChannel c r).freeIndex = s.freeIndex
      ∧ (s.setChannel c r).speed = s.speed ∧ (s.setChannel c r).pressure = s.pressure
      ∧ (s.setChannel c r).view = s.view ∧ (s.setChannel c r).driver = s.driver ∧ (s.setChannel c r).link = s.link
      ∧ (s.setChannel c r).composer = s.composer ∧ (s.setChannel c r).fault = s.fault
      ∧ (s.setChannel c r).supply = s.supply ∧ (s.setChannel c r).standstill = s.standstill
      ∧ (s.setChannel c r).startup = s.startup ∧ (s.setChannel c r).service = s.service
      ∧ (s.setChannel c r).handed = s.handed ∧ (s.setChannel c r).pending = s.pending :=
  ⟨rfl, rfl, rfl, rfl, rfl, rfl, rfl, rfl, rfl, rfl, rfl, rfl, rfl, rfl, rfl⟩

@[simp] theorem State.setStats_frame (s : State) (st : LinkStats) :
    (s.setStats st).now = s.now ∧ (s.setStats st).freeIndex = s.freeIndex ∧ (s.setStats st).speed = s.speed
      ∧ (s.setStats st).pressure = s.pressure ∧ (s.setStats st).view = s.view ∧ (s.setStats st).slip = s.slip
      ∧ (s.setStats st).driver = s.driver ∧ (s.setStats st).composer = s.composer ∧ (s.setStats st).fault = s.fault
      ∧ (s.setStats st).supply = s.supply ∧ (s.setStats st).standstill = s.standstill
      ∧ (s.setStats st).startup = s.startup ∧ (s.setStats st).service = s.service
      ∧ (s.setStats st).handed = s.handed ∧ (s.setStats st).pending = s.pending :=
  ⟨rfl, rfl, rfl, rfl, rfl, rfl, rfl, rfl, rfl, rfl, rfl, rfl, rfl, rfl, rfl⟩

@[simp] theorem State.stamp_frame (s : State) (t : Time) :
    (s.stamp t).freeIndex = s.freeIndex ∧ (s.stamp t).speed = s.speed ∧ (s.stamp t).pressure = s.pressure
      ∧ (s.stamp t).view = s.view ∧ (s.stamp t).slip = s.slip ∧ (s.stamp t).driver = s.driver
      ∧ (s.stamp t).link = s.link ∧ (s.stamp t).composer = s.composer ∧ (s.stamp t).fault = s.fault
      ∧ (s.stamp t).supply = s.supply ∧ (s.stamp t).standstill = s.standstill ∧ (s.stamp t).startup = s.startup
      ∧ (s.stamp t).service = s.service ∧ (s.stamp t).handed = s.handed ∧ (s.stamp t).pending = s.pending :=
  ⟨rfl, rfl, rfl, rfl, rfl, rfl, rfl, rfl, rfl, rfl, rfl, rfl, rfl, rfl, rfl⟩

@[simp] theorem State.take_frame (s : State) (c : Instr) :
    (s.take c).now = s.now ∧ (s.take c).freeIndex = s.freeIndex ∧ (s.take c).speed = s.speed
      ∧ (s.take c).pressure = s.pressure ∧ (s.take c).view = s.view ∧ (s.take c).slip = s.slip
      ∧ (s.take c).driver = s.driver ∧ (s.take c).link = s.link ∧ (s.take c).composer = s.composer
      ∧ (s.take c).fault = s.fault ∧ (s.take c).supply = s.supply ∧ (s.take c).standstill = s.standstill
      ∧ (s.take c).startup = s.startup ∧ (s.take c).service = s.service ∧ (s.take c).pending = s.pending :=
  ⟨rfl, rfl, rfl, rfl, rfl, rfl, rfl, rfl, rfl, rfl, rfl, rfl, rfl, rfl, rfl⟩

@[simp] theorem State.evalAlone_frame (s : State) :
    (s.evalAlone).now = s.now ∧ (s.evalAlone).freeIndex = s.freeIndex ∧ (s.evalAlone).speed = s.speed
      ∧ (s.evalAlone).pressure = s.pressure ∧ (s.evalAlone).slip = s.slip ∧ (s.evalAlone).driver = s.driver
      ∧ (s.evalAlone).link = s.link ∧ (s.evalAlone).composer = s.composer ∧ (s.evalAlone).fault = s.fault
      ∧ (s.evalAlone).supply = s.supply ∧ (s.evalAlone).standstill = s.standstill
      ∧ (s.evalAlone).startup = s.startup ∧ (s.evalAlone).service = s.service ∧ (s.evalAlone).handed = s.handed
      ∧ (s.evalAlone).pending = s.pending :=
  ⟨rfl, rfl, rfl, rfl, rfl, rfl, rfl, rfl, rfl, rfl, rfl, rfl, rfl, rfl, rfl⟩

@[simp] theorem State.changeSamplePeriod_frame (s : State) (intoQuiet : Bool) :
    (s.changeSamplePeriod intoQuiet).now = s.now ∧ (s.changeSamplePeriod intoQuiet).freeIndex = s.freeIndex
      ∧ (s.changeSamplePeriod intoQuiet).speed = s.speed ∧ (s.changeSamplePeriod intoQuiet).view = s.view
      ∧ (s.changeSamplePeriod intoQuiet).slip = s.slip ∧ (s.changeSamplePeriod intoQuiet).driver = s.driver
      ∧ (s.changeSamplePeriod intoQuiet).link = s.link ∧ (s.changeSamplePeriod intoQuiet).composer = s.composer
      ∧ (s.changeSamplePeriod intoQuiet).fault = s.fault ∧ (s.changeSamplePeriod intoQuiet).supply = s.supply
      ∧ (s.changeSamplePeriod intoQuiet).standstill = s.standstill
      ∧ (s.changeSamplePeriod intoQuiet).startup = s.startup ∧ (s.changeSamplePeriod intoQuiet).service = s.service
      ∧ (s.changeSamplePeriod intoQuiet).handed = s.handed ∧ (s.changeSamplePeriod intoQuiet).pending = s.pending :=
  by unfold State.changeSamplePeriod; (repeat' split) <;> simp

@[simp] theorem State.computeView_frame (s : State) :
    (s.computeView).now = s.now ∧ (s.computeView).freeIndex = s.freeIndex ∧ (s.computeView).speed = s.speed
      ∧ (s.computeView).pressure = s.pressure ∧ (s.computeView).slip = s.slip ∧ (s.computeView).driver = s.driver
      ∧ (s.computeView).link = s.link ∧ (s.computeView).composer = s.composer ∧ (s.computeView).fault = s.fault
      ∧ (s.computeView).supply = s.supply ∧ (s.computeView).standstill = s.standstill
      ∧ (s.computeView).startup = s.startup ∧ (s.computeView).service = s.service
      ∧ (s.computeView).handed = s.handed ∧ (s.computeView).pending = s.pending :=
  ⟨rfl, rfl, rfl, rfl, rfl, rfl, rfl, rfl, rfl, rfl, rfl, rfl, rfl, rfl, rfl⟩

@[simp] theorem State.copyPhase_frame (s : State) (c : Channel) (phase : Phase) :
    (s.copyPhase c phase).now = s.now ∧ (s.copyPhase c phase).freeIndex = s.freeIndex
      ∧ (s.copyPhase c phase).speed = s.speed ∧ (s.copyPhase c phase).pressure = s.pressure
      ∧ (s.copyPhase c phase).slip = s.slip ∧ (s.copyPhase c phase).driver = s.driver
      ∧ (s.copyPhase c phase).link = s.link ∧ (s.copyPhase c phase).composer = s.composer
      ∧ (s.copyPhase c phase).fault = s.fault ∧ (s.copyPhase c phase).supply = s.supply
      ∧ (s.copyPhase c phase).standstill = s.standstill ∧ (s.copyPhase c phase).startup = s.startup
      ∧ (s.copyPhase c phase).service = s.service ∧ (s.copyPhase c phase).handed = s.handed
      ∧ (s.copyPhase c phase).pending = s.pending :=
  by unfold State.copyPhase; (repeat' split) <;> simp

@[simp] theorem State.fillLanes_frame (s : State) (pair : Sides Sample) :
    (s.fillLanes pair).now = s.now ∧ (s.fillLanes pair).freeIndex = s.freeIndex
      ∧ (s.fillLanes pair).speed = s.speed ∧ (s.fillLanes pair).pressure = s.pressure
      ∧ (s.fillLanes pair).slip = s.slip ∧ (s.fillLanes pair).driver = s.driver ∧ (s.fillLanes pair).link = s.link
      ∧ (s.fillLanes pair).composer = s.composer ∧ (s.fillLanes pair).fault = s.fault
      ∧ (s.fillLanes pair).supply = s.supply ∧ (s.fillLanes pair).standstill = s.standstill
      ∧ (s.fillLanes pair).startup = s.startup ∧ (s.fillLanes pair).service = s.service
      ∧ (s.fillLanes pair).handed = s.handed ∧ (s.fillLanes pair).pending = s.pending :=
  ⟨rfl, rfl, rfl, rfl, rfl, rfl, rfl, rfl, rfl, rfl, rfl, rfl, rfl, rfl, rfl⟩

@[simp] theorem State.setPeer_frame (s : State) (p : Position) (e : PeerEntry) :
    (s.setPeer p e).now = s.now ∧ (s.setPeer p e).freeIndex = s.freeIndex ∧ (s.setPeer p e).speed = s.speed
      ∧ (s.setPeer p e).pressure = s.pressure ∧ (s.setPeer p e).slip = s.slip ∧ (s.setPeer p e).driver = s.driver
      ∧ (s.setPeer p e).link = s.link ∧ (s.setPeer p e).composer = s.composer ∧ (s.setPeer p e).fault = s.fault
      ∧ (s.setPeer p e).supply = s.supply ∧ (s.setPeer p e).standstill = s.standstill
      ∧ (s.setPeer p e).startup = s.startup ∧ (s.setPeer p e).service = s.service
      ∧ (s.setPeer p e).handed = s.handed ∧ (s.setPeer p e).pending = s.pending :=
  ⟨rfl, rfl, rfl, rfl, rfl, rfl, rfl, rfl, rfl, rfl, rfl, rfl, rfl, rfl, rfl⟩

@[simp] theorem State.driveMode_frame (s : State) (m : Mode) :
    (s.driveMode m).now = s.now ∧ (s.driveMode m).freeIndex = s.freeIndex ∧ (s.driveMode m).speed = s.speed
      ∧ (s.driveMode m).pressure = s.pressure ∧ (s.driveMode m).view = s.view ∧ (s.driveMode m).slip = s.slip
      ∧ (s.driveMode m).link = s.link ∧ (s.driveMode m).composer = s.composer ∧ (s.driveMode m).fault = s.fault
      ∧ (s.driveMode m).supply = s.supply ∧ (s.driveMode m).standstill = s.standstill
      ∧ (s.driveMode m).startup = s.startup ∧ (s.driveMode m).service = s.service
      ∧ (s.driveMode m).handed = s.handed ∧ (s.driveMode m).pending = s.pending :=
  ⟨rfl, rfl, rfl, rfl, rfl, rfl, rfl, rfl, rfl, rfl, rfl, rfl, rfl, rfl, rfl⟩

@[simp] theorem State.driveSag_frame (s : State) :
    (s.driveSag).now = s.now ∧ (s.driveSag).freeIndex = s.freeIndex ∧ (s.driveSag).speed = s.speed
      ∧ (s.driveSag).pressure = s.pressure ∧ (s.driveSag).view = s.view ∧ (s.driveSag).slip = s.slip
      ∧ (s.driveSag).link = s.link ∧ (s.driveSag).composer = s.composer ∧ (s.driveSag).fault = s.fault
      ∧ (s.driveSag).supply = s.supply ∧ (s.driveSag).standstill = s.standstill ∧ (s.driveSag).startup = s.startup
      ∧ (s.driveSag).service = s.service ∧ (s.driveSag).handed = s.handed ∧ (s.driveSag).pending = s.pending :=
  ⟨rfl, rfl, rfl, rfl, rfl, rfl, rfl, rfl, rfl, rfl, rfl, rfl, rfl, rfl, rfl⟩

@[simp] theorem State.setDriverChan_frame (s : State) (c : Channel) (d : DriverChan) :
    (s.setDriverChan c d).now = s.now ∧ (s.setDriverChan c d).freeIndex = s.freeIndex
      ∧ (s.setDriverChan c d).speed = s.speed ∧ (s.setDriverChan c d).pressure = s.pressure
      ∧ (s.setDriverChan c d).view = s.view ∧ (s.setDriverChan c d).slip = s.slip
      ∧ (s.setDriverChan c d).link = s.link ∧ (s.setDriverChan c d).composer = s.composer
      ∧ (s.setDriverChan c d).fault = s.fault ∧ (s.setDriverChan c d).supply = s.supply
      ∧ (s.setDriverChan c d).standstill = s.standstill ∧ (s.setDriverChan c d).startup = s.startup
      ∧ (s.setDriverChan c d).service = s.service ∧ (s.setDriverChan c d).handed = s.handed
      ∧ (s.setDriverChan c d).pending = s.pending :=
  ⟨rfl, rfl, rfl, rfl, rfl, rfl, rfl, rfl, rfl, rfl, rfl, rfl, rfl, rfl, rfl⟩

@[simp] theorem State.clearMemory_frame (s : State) :
    (s.clearMemory).now = s.now ∧ (s.clearMemory).freeIndex = s.freeIndex ∧ (s.clearMemory).speed = s.speed
      ∧ (s.clearMemory).pressure = s.pressure ∧ (s.clearMemory).view = s.view ∧ (s.clearMemory).slip = s.slip
      ∧ (s.clearMemory).driver = s.driver ∧ (s.clearMemory).link = s.link ∧ (s.clearMemory).composer = s.composer
      ∧ (s.clearMemory).supply = s.supply ∧ (s.clearMemory).standstill = s.standstill
      ∧ (s.clearMemory).startup = s.startup ∧ (s.clearMemory).service = s.service
      ∧ (s.clearMemory).handed = s.handed ∧ (s.clearMemory).pending = s.pending :=
  ⟨rfl, rfl, rfl, rfl, rfl, rfl, rfl, rfl, rfl, rfl, rfl, rfl, rfl, rfl, rfl⟩

@[simp] theorem State.latchFlag_frame (s : State) :
    (s.latchFlag).now = s.now ∧ (s.latchFlag).freeIndex = s.freeIndex ∧ (s.latchFlag).speed = s.speed
      ∧ (s.latchFlag).pressure = s.pressure ∧ (s.latchFlag).view = s.view ∧ (s.latchFlag).slip = s.slip
      ∧ (s.latchFlag).driver = s.driver ∧ (s.latchFlag).link = s.link ∧ (s.latchFlag).composer = s.composer
      ∧ (s.latchFlag).supply = s.supply ∧ (s.latchFlag).standstill = s.standstill
      ∧ (s.latchFlag).startup = s.startup ∧ (s.latchFlag).service = s.service ∧ (s.latchFlag).handed = s.handed
      ∧ (s.latchFlag).pending = s.pending :=
  by unfold State.latchFlag; (repeat' split) <;> simp

@[simp] theorem State.refuseQuiet_frame (s : State) :
    (s.refuseQuiet).now = s.now ∧ (s.refuseQuiet).freeIndex = s.freeIndex ∧ (s.refuseQuiet).speed = s.speed
      ∧ (s.refuseQuiet).pressure = s.pressure ∧ (s.refuseQuiet).view = s.view ∧ (s.refuseQuiet).slip = s.slip
      ∧ (s.refuseQuiet).driver = s.driver ∧ (s.refuseQuiet).link = s.link ∧ (s.refuseQuiet).composer = s.composer
      ∧ (s.refuseQuiet).fault = s.fault ∧ (s.refuseQuiet).supply = s.supply ∧ (s.refuseQuiet).startup = s.startup
      ∧ (s.refuseQuiet).service = s.service ∧ (s.refuseQuiet).handed = s.handed
      ∧ (s.refuseQuiet).pending = s.pending :=
  ⟨rfl, rfl, rfl, rfl, rfl, rfl, rfl, rfl, rfl, rfl, rfl, rfl, rfl, rfl, rfl⟩

@[simp] theorem State.seeCause_frame (s : State) (c : Cause) :
    (s.seeCause c).now = s.now ∧ (s.seeCause c).freeIndex = s.freeIndex ∧ (s.seeCause c).speed = s.speed
      ∧ (s.seeCause c).pressure = s.pressure ∧ (s.seeCause c).view = s.view ∧ (s.seeCause c).slip = s.slip
      ∧ (s.seeCause c).driver = s.driver ∧ (s.seeCause c).link = s.link ∧ (s.seeCause c).composer = s.composer
      ∧ (s.seeCause c).supply = s.supply ∧ (s.seeCause c).standstill = s.standstill
      ∧ (s.seeCause c).startup = s.startup ∧ (s.seeCause c).service = s.service ∧ (s.seeCause c).handed = s.handed
      ∧ (s.seeCause c).pending = s.pending :=
  ⟨rfl, rfl, rfl, rfl, rfl, rfl, rfl, rfl, rfl, rfl, rfl, rfl, rfl, rfl, rfl⟩

@[simp] theorem State.setHeld_frame (s : State) (x : HeldSet) :
    (s.setHeld x).now = s.now ∧ (s.setHeld x).freeIndex = s.freeIndex ∧ (s.setHeld x).speed = s.speed
      ∧ (s.setHeld x).pressure = s.pressure ∧ (s.setHeld x).view = s.view ∧ (s.setHeld x).slip = s.slip
      ∧ (s.setHeld x).driver = s.driver ∧ (s.setHeld x).link = s.link ∧ (s.setHeld x).composer = s.composer
      ∧ (s.setHeld x).supply = s.supply ∧ (s.setHeld x).standstill = s.standstill
      ∧ (s.setHeld x).startup = s.startup ∧ (s.setHeld x).service = s.service ∧ (s.setHeld x).handed = s.handed
      ∧ (s.setHeld x).pending = s.pending :=
  ⟨rfl, rfl, rfl, rfl, rfl, rfl, rfl, rfl, rfl, rfl, rfl, rfl, rfl, rfl, rfl⟩

@[simp] theorem State.setSupplyEvent_frame (s : State) :
    (s.setSupplyEvent).now = s.now ∧ (s.setSupplyEvent).freeIndex = s.freeIndex
      ∧ (s.setSupplyEvent).speed = s.speed ∧ (s.setSupplyEvent).pressure = s.pressure
      ∧ (s.setSupplyEvent).view = s.view ∧ (s.setSupplyEvent).slip = s.slip ∧ (s.setSupplyEvent).driver = s.driver
      ∧ (s.setSupplyEvent).link = s.link ∧ (s.setSupplyEvent).composer = s.composer
      ∧ (s.setSupplyEvent).supply = s.supply ∧ (s.setSupplyEvent).standstill = s.standstill
      ∧ (s.setSupplyEvent).startup = s.startup ∧ (s.setSupplyEvent).service = s.service
      ∧ (s.setSupplyEvent).handed = s.handed ∧ (s.setSupplyEvent).pending = s.pending :=
  ⟨rfl, rfl, rfl, rfl, rfl, rfl, rfl, rfl, rfl, rfl, rfl, rfl, rfl, rfl, rfl⟩

@[simp] theorem State.startMissingTimer_frame (s : State) :
    (s.startMissingTimer).now = s.now ∧ (s.startMissingTimer).freeIndex = s.freeIndex
      ∧ (s.startMissingTimer).speed = s.speed ∧ (s.startMissingTimer).pressure = s.pressure
      ∧ (s.startMissingTimer).slip = s.slip ∧ (s.startMissingTimer).driver = s.driver
      ∧ (s.startMissingTimer).link = s.link ∧ (s.startMissingTimer).composer = s.composer
      ∧ (s.startMissingTimer).fault = s.fault ∧ (s.startMissingTimer).supply = s.supply
      ∧ (s.startMissingTimer).standstill = s.standstill ∧ (s.startMissingTimer).startup = s.startup
      ∧ (s.startMissingTimer).service = s.service ∧ (s.startMissingTimer).handed = s.handed
      ∧ (s.startMissingTimer).pending = s.pending :=
  ⟨rfl, rfl, rfl, rfl, rfl, rfl, rfl, rfl, rfl, rfl, rfl, rfl, rfl, rfl, rfl⟩

@[simp] theorem State.tickMillis_frame (s : State) (t : Time) :
    (s.tickMillis t).now = s.now ∧ (s.tickMillis t).freeIndex = s.freeIndex ∧ (s.tickMillis t).speed = s.speed
      ∧ (s.tickMillis t).pressure = s.pressure ∧ (s.tickMillis t).view = s.view ∧ (s.tickMillis t).slip = s.slip
      ∧ (s.tickMillis t).driver = s.driver ∧ (s.tickMillis t).link = s.link
      ∧ (s.tickMillis t).composer = s.composer ∧ (s.tickMillis t).supply = s.supply
      ∧ (s.tickMillis t).standstill = s.standstill ∧ (s.tickMillis t).startup = s.startup
      ∧ (s.tickMillis t).service = s.service ∧ (s.tickMillis t).handed = s.handed
      ∧ (s.tickMillis t).pending = s.pending :=
  by unfold State.tickMillis; (repeat' split) <;> simp

@[simp] theorem State.countSent_frame (s : State) :
    (s.countSent).now = s.now ∧ (s.countSent).freeIndex = s.freeIndex ∧ (s.countSent).speed = s.speed
      ∧ (s.countSent).pressure = s.pressure ∧ (s.countSent).view = s.view ∧ (s.countSent).slip = s.slip
      ∧ (s.countSent).driver = s.driver ∧ (s.countSent).link = s.link ∧ (s.countSent).fault = s.fault
      ∧ (s.countSent).supply = s.supply ∧ (s.countSent).standstill = s.standstill
      ∧ (s.countSent).startup = s.startup ∧ (s.countSent).service = s.service ∧ (s.countSent).handed = s.handed
      ∧ (s.countSent).pending = s.pending :=
  ⟨rfl, rfl, rfl, rfl, rfl, rfl, rfl, rfl, rfl, rfl, rfl, rfl, rfl, rfl, rfl⟩

@[simp] theorem State.endGroup_frame (s : State) :
    (s.endGroup).now = s.now ∧ (s.endGroup).freeIndex = s.freeIndex ∧ (s.endGroup).speed = s.speed
      ∧ (s.endGroup).pressure = s.pressure ∧ (s.endGroup).view = s.view ∧ (s.endGroup).slip = s.slip
      ∧ (s.endGroup).driver = s.driver ∧ (s.endGroup).link = s.link ∧ (s.endGroup).fault = s.fault
      ∧ (s.endGroup).supply = s.supply ∧ (s.endGroup).standstill = s.standstill ∧ (s.endGroup).startup = s.startup
      ∧ (s.endGroup).service = s.service ∧ (s.endGroup).handed = s.handed ∧ (s.endGroup).pending = s.pending :=
  ⟨rfl, rfl, rfl, rfl, rfl, rfl, rfl, rfl, rfl, rfl, rfl, rfl, rfl, rfl, rfl⟩

@[simp] theorem State.report_frame (s : State) (t : Time) (micros : Nat) :
    (s.report t micros).now = s.now ∧ (s.report t micros).freeIndex = s.freeIndex
      ∧ (s.report t micros).speed = s.speed ∧ (s.report t micros).pressure = s.pressure
      ∧ (s.report t micros).view = s.view ∧ (s.report t micros).slip = s.slip
      ∧ (s.report t micros).driver = s.driver ∧ (s.report t micros).fault = s.fault
      ∧ (s.report t micros).supply = s.supply ∧ (s.report t micros).standstill = s.standstill
      ∧ (s.report t micros).startup = s.startup ∧ (s.report t micros).service = s.service
      ∧ (s.report t micros).handed = s.handed ∧ (s.report t micros).pending = s.pending :=
  ⟨rfl, rfl, rfl, rfl, rfl, rfl, rfl, rfl, rfl, rfl, rfl, rfl, rfl, rfl⟩

@[simp] theorem State.beginSending_frame (s : State) :
    (s.beginSending).now = s.now ∧ (s.beginSending).freeIndex = s.freeIndex ∧ (s.beginSending).speed = s.speed
      ∧ (s.beginSending).pressure = s.pressure ∧ (s.beginSending).view = s.view ∧ (s.beginSending).slip = s.slip
      ∧ (s.beginSending).driver = s.driver ∧ (s.beginSending).composer = s.composer
      ∧ (s.beginSending).fault = s.fault ∧ (s.beginSending).supply = s.supply
      ∧ (s.beginSending).standstill = s.standstill ∧ (s.beginSending).startup = s.startup
      ∧ (s.beginSending).service = s.service ∧ (s.beginSending).handed = s.handed
      ∧ (s.beginSending).pending = s.pending :=
  ⟨rfl, rfl, rfl, rfl, rfl, rfl, rfl, rfl, rfl, rfl, rfl, rfl, rfl, rfl, rfl⟩

@[simp] theorem State.endFrame_frame (s : State) (f : ReadFrame) :
    (s.endFrame f).now = s.now ∧ (s.endFrame f).freeIndex = s.freeIndex ∧ (s.endFrame f).speed = s.speed
      ∧ (s.endFrame f).pressure = s.pressure ∧ (s.endFrame f).view = s.view ∧ (s.endFrame f).slip = s.slip
      ∧ (s.endFrame f).driver = s.driver ∧ (s.endFrame f).composer = s.composer ∧ (s.endFrame f).fault = s.fault
      ∧ (s.endFrame f).supply = s.supply ∧ (s.endFrame f).standstill = s.standstill
      ∧ (s.endFrame f).startup = s.startup ∧ (s.endFrame f).service = s.service ∧ (s.endFrame f).handed = s.handed
      ∧ (s.endFrame f).pending = s.pending :=
  ⟨rfl, rfl, rfl, rfl, rfl, rfl, rfl, rfl, rfl, rfl, rfl, rfl, rfl, rfl, rfl⟩

@[simp] theorem State.endSilence_frame (s : State) (t : Time) :
    (s.endSilence t).now = s.now ∧ (s.endSilence t).freeIndex = s.freeIndex ∧ (s.endSilence t).speed = s.speed
      ∧ (s.endSilence t).pressure = s.pressure ∧ (s.endSilence t).view = s.view ∧ (s.endSilence t).slip = s.slip
      ∧ (s.endSilence t).driver = s.driver ∧ (s.endSilence t).composer = s.composer
      ∧ (s.endSilence t).fault = s.fault ∧ (s.endSilence t).supply = s.supply
      ∧ (s.endSilence t).standstill = s.standstill ∧ (s.endSilence t).startup = s.startup
      ∧ (s.endSilence t).service = s.service ∧ (s.endSilence t).handed = s.handed
      ∧ (s.endSilence t).pending = s.pending :=
  by unfold State.endSilence; (repeat' split) <;> simp

@[simp] theorem State.setLine_frame (s : State) (x : LineState) :
    (s.setLine x).now = s.now ∧ (s.setLine x).freeIndex = s.freeIndex ∧ (s.setLine x).speed = s.speed
      ∧ (s.setLine x).pressure = s.pressure ∧ (s.setLine x).view = s.view ∧ (s.setLine x).slip = s.slip
      ∧ (s.setLine x).driver = s.driver ∧ (s.setLine x).composer = s.composer ∧ (s.setLine x).fault = s.fault
      ∧ (s.setLine x).supply = s.supply ∧ (s.setLine x).standstill = s.standstill
      ∧ (s.setLine x).startup = s.startup ∧ (s.setLine x).service = s.service ∧ (s.setLine x).handed = s.handed
      ∧ (s.setLine x).pending = s.pending :=
  ⟨rfl, rfl, rfl, rfl, rfl, rfl, rfl, rfl, rfl, rfl, rfl, rfl, rfl, rfl, rfl⟩

@[simp] theorem State.startAlert_frame (s : State) :
    (s.startAlert).now = s.now ∧ (s.startAlert).freeIndex = s.freeIndex ∧ (s.startAlert).speed = s.speed
      ∧ (s.startAlert).pressure = s.pressure ∧ (s.startAlert).view = s.view ∧ (s.startAlert).slip = s.slip
      ∧ (s.startAlert).driver = s.driver ∧ (s.startAlert).fault = s.fault ∧ (s.startAlert).supply = s.supply
      ∧ (s.startAlert).standstill = s.standstill ∧ (s.startAlert).startup = s.startup
      ∧ (s.startAlert).service = s.service ∧ (s.startAlert).handed = s.handed ∧ (s.startAlert).pending = s.pending :=
  ⟨rfl, rfl, rfl, rfl, rfl, rfl, rfl, rfl, rfl, rfl, rfl, rfl, rfl, rfl⟩

@[simp] theorem State.startReply_frame (s : State) (r : Reply) :
    (s.startReply r).now = s.now ∧ (s.startReply r).freeIndex = s.freeIndex ∧ (s.startReply r).speed = s.speed
      ∧ (s.startReply r).pressure = s.pressure ∧ (s.startReply r).view = s.view ∧ (s.startReply r).slip = s.slip
      ∧ (s.startReply r).driver = s.driver ∧ (s.startReply r).composer = s.composer
      ∧ (s.startReply r).fault = s.fault ∧ (s.startReply r).supply = s.supply
      ∧ (s.startReply r).standstill = s.standstill ∧ (s.startReply r).startup = s.startup
      ∧ (s.startReply r).service = s.service ∧ (s.startReply r).handed = s.handed
      ∧ (s.startReply r).pending = s.pending :=
  ⟨rfl, rfl, rfl, rfl, rfl, rfl, rfl, rfl, rfl, rfl, rfl, rfl, rfl, rfl, rfl⟩

@[simp] theorem State.startStatus_frame (s : State) (r : StatusReport) :
    (s.startStatus r).now = s.now ∧ (s.startStatus r).freeIndex = s.freeIndex ∧ (s.startStatus r).speed = s.speed
      ∧ (s.startStatus r).pressure = s.pressure ∧ (s.startStatus r).view = s.view ∧ (s.startStatus r).slip = s.slip
      ∧ (s.startStatus r).driver = s.driver ∧ (s.startStatus r).composer = s.composer
      ∧ (s.startStatus r).fault = s.fault ∧ (s.startStatus r).supply = s.supply
      ∧ (s.startStatus r).standstill = s.standstill ∧ (s.startStatus r).startup = s.startup
      ∧ (s.startStatus r).service = s.service ∧ (s.startStatus r).handed = s.handed
      ∧ (s.startStatus r).pending = s.pending :=
  ⟨rfl, rfl, rfl, rfl, rfl, rfl, rfl, rfl, rfl, rfl, rfl, rfl, rfl, rfl, rfl⟩

@[simp] theorem State.timeStuck_frame (s : State) (bits : List Bit) :
    (s.timeStuck bits).now = s.now ∧ (s.timeStuck bits).freeIndex = s.freeIndex
      ∧ (s.timeStuck bits).speed = s.speed ∧ (s.timeStuck bits).pressure = s.pressure
      ∧ (s.timeStuck bits).view = s.view ∧ (s.timeStuck bits).slip = s.slip ∧ (s.timeStuck bits).driver = s.driver
      ∧ (s.timeStuck bits).composer = s.composer ∧ (s.timeStuck bits).fault = s.fault
      ∧ (s.timeStuck bits).supply = s.supply ∧ (s.timeStuck bits).standstill = s.standstill
      ∧ (s.timeStuck bits).startup = s.startup ∧ (s.timeStuck bits).service = s.service
      ∧ (s.timeStuck bits).handed = s.handed ∧ (s.timeStuck bits).pending = s.pending :=
  ⟨rfl, rfl, rfl, rfl, rfl, rfl, rfl, rfl, rfl, rfl, rfl, rfl, rfl, rfl, rfl⟩

@[simp] theorem State.endTest_frame (s : State) :
    (s.endTest).now = s.now ∧ (s.endTest).freeIndex = s.freeIndex ∧ (s.endTest).speed = s.speed
      ∧ (s.endTest).pressure = s.pressure ∧ (s.endTest).view = s.view ∧ (s.endTest).slip = s.slip
      ∧ (s.endTest).driver = s.driver ∧ (s.endTest).link = s.link ∧ (s.endTest).composer = s.composer
      ∧ (s.endTest).fault = s.fault ∧ (s.endTest).supply = s.supply ∧ (s.endTest).standstill = s.standstill
      ∧ (s.endTest).startup = s.startup ∧ (s.endTest).handed = s.handed ∧ (s.endTest).pending = s.pending :=
  ⟨rfl, rfl, rfl, rfl, rfl, rfl, rfl, rfl, rfl, rfl, rfl, rfl, rfl, rfl, rfl⟩

@[simp] theorem State.beginReporting_frame (s : State) (t : Time) :
    (s.beginReporting t).now = s.now ∧ (s.beginReporting t).freeIndex = s.freeIndex
      ∧ (s.beginReporting t).speed = s.speed ∧ (s.beginReporting t).pressure = s.pressure
      ∧ (s.beginReporting t).view = s.view ∧ (s.beginReporting t).slip = s.slip
      ∧ (s.beginReporting t).driver = s.driver ∧ (s.beginReporting t).link = s.link
      ∧ (s.beginReporting t).composer = s.composer ∧ (s.beginReporting t).fault = s.fault
      ∧ (s.beginReporting t).supply = s.supply ∧ (s.beginReporting t).standstill = s.standstill
      ∧ (s.beginReporting t).service = s.service ∧ (s.beginReporting t).handed = s.handed
      ∧ (s.beginReporting t).pending = s.pending :=
  ⟨rfl, rfl, rfl, rfl, rfl, rfl, rfl, rfl, rfl, rfl, rfl, rfl, rfl, rfl, rfl⟩

@[simp] theorem State.beginStart_frame (s : State) (x : Straps) :
    (s.beginStart x).freeIndex = s.freeIndex ∧ (s.beginStart x).speed = s.speed
      ∧ (s.beginStart x).pressure = s.pressure ∧ (s.beginStart x).view = s.view ∧ (s.beginStart x).slip = s.slip
      ∧ (s.beginStart x).driver = s.driver ∧ (s.beginStart x).link = s.link
      ∧ (s.beginStart x).composer = s.composer ∧ (s.beginStart x).standstill = s.standstill
      ∧ (s.beginStart x).service = s.service ∧ (s.beginStart x).handed = s.handed
      ∧ (s.beginStart x).pending = s.pending :=
  by unfold State.beginStart; (repeat' split) <;> simp

@[simp] theorem State.enableTransmitter_frame (s : State) :
    (s.enableTransmitter).now = s.now ∧ (s.enableTransmitter).freeIndex = s.freeIndex
      ∧ (s.enableTransmitter).speed = s.speed ∧ (s.enableTransmitter).pressure = s.pressure
      ∧ (s.enableTransmitter).view = s.view ∧ (s.enableTransmitter).slip = s.slip
      ∧ (s.enableTransmitter).driver = s.driver ∧ (s.enableTransmitter).composer = s.composer
      ∧ (s.enableTransmitter).fault = s.fault ∧ (s.enableTransmitter).supply = s.supply
      ∧ (s.enableTransmitter).standstill = s.standstill ∧ (s.enableTransmitter).startup = s.startup
      ∧ (s.enableTransmitter).service = s.service ∧ (s.enableTransmitter).handed = s.handed
      ∧ (s.enableTransmitter).pending = s.pending :=
  ⟨rfl, rfl, rfl, rfl, rfl, rfl, rfl, rfl, rfl, rfl, rfl, rfl, rfl, rfl, rfl⟩

@[simp] theorem State.startUnits_frame (s : State) (t : Time) :
    (s.startUnits t).now = s.now ∧ (s.startUnits t).freeIndex = s.freeIndex ∧ (s.startUnits t).view = s.view
      ∧ (s.startUnits t).slip = s.slip ∧ (s.startUnits t).link = s.link ∧ (s.startUnits t).composer = s.composer
      ∧ (s.startUnits t).fault = s.fault ∧ (s.startUnits t).supply = s.supply
      ∧ (s.startUnits t).standstill = s.standstill ∧ (s.startUnits t).startup = s.startup
      ∧ (s.startUnits t).service = s.service ∧ (s.startUnits t).handed = s.handed
      ∧ (s.startUnits t).pending = s.pending :=
  ⟨rfl, rfl, rfl, rfl, rfl, rfl, rfl, rfl, rfl, rfl, rfl, rfl, rfl⟩

@[simp] theorem State.addAlertDrops_frame (s : State) (n : Nat) :
    (s.addAlertDrops n).now = s.now ∧ (s.addAlertDrops n).freeIndex = s.freeIndex
      ∧ (s.addAlertDrops n).speed = s.speed ∧ (s.addAlertDrops n).pressure = s.pressure
      ∧ (s.addAlertDrops n).view = s.view ∧ (s.addAlertDrops n).slip = s.slip
      ∧ (s.addAlertDrops n).driver = s.driver ∧ (s.addAlertDrops n).composer = s.composer
      ∧ (s.addAlertDrops n).fault = s.fault ∧ (s.addAlertDrops n).supply = s.supply
      ∧ (s.addAlertDrops n).standstill = s.standstill ∧ (s.addAlertDrops n).startup = s.startup
      ∧ (s.addAlertDrops n).service = s.service ∧ (s.addAlertDrops n).handed = s.handed
      ∧ (s.addAlertDrops n).pending = s.pending :=
  ⟨rfl, rfl, rfl, rfl, rfl, rfl, rfl, rfl, rfl, rfl, rfl, rfl, rfl, rfl, rfl⟩

@[simp] theorem State.addDuplicate_frame (s : State) :
    (s.addDuplicate).now = s.now ∧ (s.addDuplicate).freeIndex = s.freeIndex ∧ (s.addDuplicate).speed = s.speed
      ∧ (s.addDuplicate).pressure = s.pressure ∧ (s.addDuplicate).view = s.view ∧ (s.addDuplicate).slip = s.slip
      ∧ (s.addDuplicate).driver = s.driver ∧ (s.addDuplicate).composer = s.composer
      ∧ (s.addDuplicate).fault = s.fault ∧ (s.addDuplicate).supply = s.supply
      ∧ (s.addDuplicate).standstill = s.standstill ∧ (s.addDuplicate).startup = s.startup
      ∧ (s.addDuplicate).service = s.service ∧ (s.addDuplicate).handed = s.handed
      ∧ (s.addDuplicate).pending = s.pending :=
  ⟨rfl, rfl, rfl, rfl, rfl, rfl, rfl, rfl, rfl, rfl, rfl, rfl, rfl, rfl, rfl⟩

@[simp] theorem State.addForeign_frame (s : State) (n : Nat) :
    (s.addForeign n).now = s.now ∧ (s.addForeign n).freeIndex = s.freeIndex ∧ (s.addForeign n).speed = s.speed
      ∧ (s.addForeign n).pressure = s.pressure ∧ (s.addForeign n).view = s.view ∧ (s.addForeign n).slip = s.slip
      ∧ (s.addForeign n).driver = s.driver ∧ (s.addForeign n).composer = s.composer
      ∧ (s.addForeign n).fault = s.fault ∧ (s.addForeign n).supply = s.supply
      ∧ (s.addForeign n).standstill = s.standstill ∧ (s.addForeign n).startup = s.startup
      ∧ (s.addForeign n).service = s.service ∧ (s.addForeign n).handed = s.handed
      ∧ (s.addForeign n).pending = s.pending :=
  ⟨rfl, rfl, rfl, rfl, rfl, rfl, rfl, rfl, rfl, rfl, rfl, rfl, rfl, rfl, rfl⟩

@[simp] theorem State.addGap_frame (s : State) (n : Nat) :
    (s.addGap n).now = s.now ∧ (s.addGap n).freeIndex = s.freeIndex ∧ (s.addGap n).speed = s.speed
      ∧ (s.addGap n).pressure = s.pressure ∧ (s.addGap n).view = s.view ∧ (s.addGap n).slip = s.slip
      ∧ (s.addGap n).driver = s.driver ∧ (s.addGap n).composer = s.composer ∧ (s.addGap n).fault = s.fault
      ∧ (s.addGap n).supply = s.supply ∧ (s.addGap n).standstill = s.standstill ∧ (s.addGap n).startup = s.startup
      ∧ (s.addGap n).service = s.service ∧ (s.addGap n).handed = s.handed ∧ (s.addGap n).pending = s.pending :=
  ⟨rfl, rfl, rfl, rfl, rfl, rfl, rfl, rfl, rfl, rfl, rfl, rfl, rfl, rfl, rfl⟩

@[simp] theorem State.addReceiveError_frame (s : State) :
    (s.addReceiveError).now = s.now ∧ (s.addReceiveError).freeIndex = s.freeIndex
      ∧ (s.addReceiveError).speed = s.speed ∧ (s.addReceiveError).pressure = s.pressure
      ∧ (s.addReceiveError).view = s.view ∧ (s.addReceiveError).slip = s.slip
      ∧ (s.addReceiveError).driver = s.driver ∧ (s.addReceiveError).composer = s.composer
      ∧ (s.addReceiveError).fault = s.fault ∧ (s.addReceiveError).supply = s.supply
      ∧ (s.addReceiveError).standstill = s.standstill ∧ (s.addReceiveError).startup = s.startup
      ∧ (s.addReceiveError).service = s.service ∧ (s.addReceiveError).handed = s.handed
      ∧ (s.addReceiveError).pending = s.pending :=
  ⟨rfl, rfl, rfl, rfl, rfl, rfl, rfl, rfl, rfl, rfl, rfl, rfl, rfl, rfl, rfl⟩

@[simp] theorem State.addTransmitError_frame (s : State) :
    (s.addTransmitError).now = s.now ∧ (s.addTransmitError).freeIndex = s.freeIndex
      ∧ (s.addTransmitError).speed = s.speed ∧ (s.addTransmitError).pressure = s.pressure
      ∧ (s.addTransmitError).view = s.view ∧ (s.addTransmitError).slip = s.slip
      ∧ (s.addTransmitError).driver = s.driver ∧ (s.addTransmitError).composer = s.composer
      ∧ (s.addTransmitError).fault = s.fault ∧ (s.addTransmitError).supply = s.supply
      ∧ (s.addTransmitError).standstill = s.standstill ∧ (s.addTransmitError).startup = s.startup
      ∧ (s.addTransmitError).service = s.service ∧ (s.addTransmitError).handed = s.handed
      ∧ (s.addTransmitError).pending = s.pending :=
  ⟨rfl, rfl, rfl, rfl, rfl, rfl, rfl, rfl, rfl, rfl, rfl, rfl, rfl, rfl, rfl⟩

@[simp] theorem State.force_frame (s : State) (c : Channel) :
    (s.force c).now = s.now ∧ (s.force c).freeIndex = s.freeIndex ∧ (s.force c).speed = s.speed
      ∧ (s.force c).pressure = s.pressure ∧ (s.force c).view = s.view ∧ (s.force c).driver = s.driver
      ∧ (s.force c).link = s.link ∧ (s.force c).composer = s.composer ∧ (s.force c).fault = s.fault
      ∧ (s.force c).supply = s.supply ∧ (s.force c).standstill = s.standstill ∧ (s.force c).startup = s.startup
      ∧ (s.force c).service = s.service ∧ (s.force c).pending = s.pending :=
  by unfold State.force; (repeat' split) <;> simp

@[simp] theorem State.putReply_frame (s : State) (r : Reply) :
    (s.putReply r).now = s.now ∧ (s.putReply r).freeIndex = s.freeIndex ∧ (s.putReply r).speed = s.speed
      ∧ (s.putReply r).pressure = s.pressure ∧ (s.putReply r).view = s.view ∧ (s.putReply r).slip = s.slip
      ∧ (s.putReply r).driver = s.driver ∧ (s.putReply r).composer = s.composer ∧ (s.putReply r).fault = s.fault
      ∧ (s.putReply r).supply = s.supply ∧ (s.putReply r).standstill = s.standstill
      ∧ (s.putReply r).startup = s.startup ∧ (s.putReply r).service = s.service ∧ (s.putReply r).handed = s.handed
      ∧ (s.putReply r).pending = s.pending :=
  ⟨rfl, rfl, rfl, rfl, rfl, rfl, rfl, rfl, rfl, rfl, rfl, rfl, rfl, rfl, rfl⟩

@[simp] theorem State.setMode_frame (s : State) (m : Mode) :
    (s.setMode m).now = s.now ∧ (s.setMode m).freeIndex = s.freeIndex ∧ (s.setMode m).speed = s.speed
      ∧ (s.setMode m).pressure = s.pressure ∧ (s.setMode m).view = s.view ∧ (s.setMode m).slip = s.slip
      ∧ (s.setMode m).driver = s.driver ∧ (s.setMode m).link = s.link ∧ (s.setMode m).composer = s.composer
      ∧ (s.setMode m).supply = s.supply ∧ (s.setMode m).startup = s.startup ∧ (s.setMode m).service = s.service
      ∧ (s.setMode m).pending = s.pending :=
  by unfold State.setMode; (repeat' split) <;> simp

@[simp] theorem State.warmRestart_frame (s : State) :
    (s.warmRestart).freeIndex = s.freeIndex ∧ (s.warmRestart).pending = s.pending :=
  ⟨rfl, rfl⟩

@[simp] theorem State.closeWindow_frame (s : State) (t : Time) (wires : Sides WireReport) :
    (s.closeWindow t wires).now = s.now ∧ (s.closeWindow t wires).freeIndex = s.freeIndex
      ∧ (s.closeWindow t wires).pressure = s.pressure ∧ (s.closeWindow t wires).view = s.view
      ∧ (s.closeWindow t wires).slip = s.slip ∧ (s.closeWindow t wires).driver = s.driver
      ∧ (s.closeWindow t wires).link = s.link ∧ (s.closeWindow t wires).composer = s.composer
      ∧ (s.closeWindow t wires).fault = s.fault ∧ (s.closeWindow t wires).supply = s.supply
      ∧ (s.closeWindow t wires).standstill = s.standstill ∧ (s.closeWindow t wires).startup = s.startup
      ∧ (s.closeWindow t wires).service = s.service ∧ (s.closeWindow t wires).pending = s.pending :=
  by unfold State.closeWindow; (repeat' split) <;> simp

@[simp] theorem State.takeEdge_frame (s : State) (t : Time) (i : Side) :
    (s.takeEdge t i).now = s.now ∧ (s.takeEdge t i).freeIndex = s.freeIndex
      ∧ (s.takeEdge t i).pressure = s.pressure ∧ (s.takeEdge t i).view = s.view ∧ (s.takeEdge t i).slip = s.slip
      ∧ (s.takeEdge t i).driver = s.driver ∧ (s.takeEdge t i).link = s.link
      ∧ (s.takeEdge t i).composer = s.composer ∧ (s.takeEdge t i).fault = s.fault
      ∧ (s.takeEdge t i).supply = s.supply ∧ (s.takeEdge t i).standstill = s.standstill
      ∧ (s.takeEdge t i).startup = s.startup ∧ (s.takeEdge t i).service = s.service
      ∧ (s.takeEdge t i).pending = s.pending :=
  by unfold State.takeEdge; (repeat' split) <;> simp

@[simp] theorem State.takePressureSample_frame (s : State) (t : Time) (codes : PressureCodes) :
    (s.takePressureSample t codes).now = s.now ∧ (s.takePressureSample t codes).freeIndex = s.freeIndex
      ∧ (s.takePressureSample t codes).speed = s.speed ∧ (s.takePressureSample t codes).view = s.view
      ∧ (s.takePressureSample t codes).slip = s.slip ∧ (s.takePressureSample t codes).driver = s.driver
      ∧ (s.takePressureSample t codes).link = s.link ∧ (s.takePressureSample t codes).composer = s.composer
      ∧ (s.takePressureSample t codes).fault = s.fault ∧ (s.takePressureSample t codes).supply = s.supply
      ∧ (s.takePressureSample t codes).standstill = s.standstill
      ∧ (s.takePressureSample t codes).startup = s.startup ∧ (s.takePressureSample t codes).service = s.service
      ∧ (s.takePressureSample t codes).pending = s.pending :=
  by unfold State.takePressureSample; (repeat' split) <;> simp

@[simp] theorem State.expireMissing_frame (s : State) (t : Time) :
    (s.expireMissing t).now = s.now ∧ (s.expireMissing t).freeIndex = s.freeIndex
      ∧ (s.expireMissing t).speed = s.speed ∧ (s.expireMissing t).pressure = s.pressure
      ∧ (s.expireMissing t).slip = s.slip ∧ (s.expireMissing t).driver = s.driver
      ∧ (s.expireMissing t).link = s.link ∧ (s.expireMissing t).composer = s.composer
      ∧ (s.expireMissing t).fault = s.fault ∧ (s.expireMissing t).supply = s.supply
      ∧ (s.expireMissing t).standstill = s.standstill ∧ (s.expireMissing t).startup = s.startup
      ∧ (s.expireMissing t).service = s.service ∧ (s.expireMissing t).handed = s.handed
      ∧ (s.expireMissing t).pending = s.pending :=
  by unfold State.expireMissing; (repeat' split) <;> simp

@[simp] theorem State.handUpdate_frame (s : State) (pair : Sides Sample) :
    (s.handUpdate pair).now = s.now ∧ (s.handUpdate pair).freeIndex = s.freeIndex
      ∧ (s.handUpdate pair).speed = s.speed ∧ (s.handUpdate pair).pressure = s.pressure
      ∧ (s.handUpdate pair).view = s.view ∧ (s.handUpdate pair).slip = s.slip
      ∧ (s.handUpdate pair).driver = s.driver ∧ (s.handUpdate pair).link = s.link
      ∧ (s.handUpdate pair).composer = s.composer ∧ (s.handUpdate pair).fault = s.fault
      ∧ (s.handUpdate pair).supply = s.supply ∧ (s.handUpdate pair).standstill = s.standstill
      ∧ (s.handUpdate pair).startup = s.startup ∧ (s.handUpdate pair).service = s.service
      ∧ (s.handUpdate pair).pending = s.pending :=
  ⟨rfl, rfl, rfl, rfl, rfl, rfl, rfl, rfl, rfl, rfl, rfl, rfl, rfl, rfl, rfl⟩

@[simp] theorem State.judgeStandstill_frame (s : State) (pair : Sides Sample) :
    (s.judgeStandstill pair).now = s.now ∧ (s.judgeStandstill pair).freeIndex = s.freeIndex
      ∧ (s.judgeStandstill pair).speed = s.speed ∧ (s.judgeStandstill pair).pressure = s.pressure
      ∧ (s.judgeStandstill pair).view = s.view ∧ (s.judgeStandstill pair).slip = s.slip
      ∧ (s.judgeStandstill pair).driver = s.driver ∧ (s.judgeStandstill pair).link = s.link
      ∧ (s.judgeStandstill pair).composer = s.composer ∧ (s.judgeStandstill pair).fault = s.fault
      ∧ (s.judgeStandstill pair).supply = s.supply ∧ (s.judgeStandstill pair).startup = s.startup
      ∧ (s.judgeStandstill pair).service = s.service ∧ (s.judgeStandstill pair).pending = s.pending :=
  by unfold State.judgeStandstill; (repeat' split) <;> simp

@[simp] theorem State.replacePeer_frame (s : State) (p : Position) (e : PeerEntry) :
    (s.replacePeer p e).now = s.now ∧ (s.replacePeer p e).freeIndex = s.freeIndex
      ∧ (s.replacePeer p e).speed = s.speed ∧ (s.replacePeer p e).pressure = s.pressure
      ∧ (s.replacePeer p e).slip = s.slip ∧ (s.replacePeer p e).driver = s.driver
      ∧ (s.replacePeer p e).link = s.link ∧ (s.replacePeer p e).composer = s.composer
      ∧ (s.replacePeer p e).fault = s.fault ∧ (s.replacePeer p e).supply = s.supply
      ∧ (s.replacePeer p e).standstill = s.standstill ∧ (s.replacePeer p e).startup = s.startup
      ∧ (s.replacePeer p e).service = s.service ∧ (s.replacePeer p e).handed = s.handed
      ∧ (s.replacePeer p e).pending = s.pending :=
  by unfold State.replacePeer; (repeat' split) <;> simp

@[simp] theorem State.takeUpdate_frame (s : State) (u : RefUpdate) :
    (s.takeUpdate u).now = s.now ∧ (s.takeUpdate u).freeIndex = s.freeIndex ∧ (s.takeUpdate u).speed = s.speed
      ∧ (s.takeUpdate u).pressure = s.pressure ∧ (s.takeUpdate u).view = s.view
      ∧ (s.takeUpdate u).driver = s.driver ∧ (s.takeUpdate u).link = s.link
      ∧ (s.takeUpdate u).composer = s.composer ∧ (s.takeUpdate u).fault = s.fault
      ∧ (s.takeUpdate u).supply = s.supply ∧ (s.takeUpdate u).standstill = s.standstill
      ∧ (s.takeUpdate u).startup = s.startup ∧ (s.takeUpdate u).service = s.service
      ∧ (s.takeUpdate u).pending = s.pending :=
  by unfold State.takeUpdate; (repeat' split) <;> simp

@[simp] theorem State.drivePhase_frame (s : State) (c : Channel) (p : Phase) (cap : Nat) :
    (s.drivePhase c p cap).now = s.now ∧ (s.drivePhase c p cap).freeIndex = s.freeIndex
      ∧ (s.drivePhase c p cap).speed = s.speed ∧ (s.drivePhase c p cap).pressure = s.pressure
      ∧ (s.drivePhase c p cap).view = s.view ∧ (s.drivePhase c p cap).slip = s.slip
      ∧ (s.drivePhase c p cap).link = s.link ∧ (s.drivePhase c p cap).composer = s.composer
      ∧ (s.drivePhase c p cap).fault = s.fault ∧ (s.drivePhase c p cap).supply = s.supply
      ∧ (s.drivePhase c p cap).standstill = s.standstill ∧ (s.drivePhase c p cap).startup = s.startup
      ∧ (s.drivePhase c p cap).service = s.service ∧ (s.drivePhase c p cap).handed = s.handed
      ∧ (s.drivePhase c p cap).pending = s.pending :=
  by unfold State.drivePhase; (repeat' split) <;> simp

@[simp] theorem State.driveTest_frame (s : State) (c : Channel) (p : Pattern) :
    (s.driveTest c p).now = s.now ∧ (s.driveTest c p).freeIndex = s.freeIndex ∧ (s.driveTest c p).speed = s.speed
      ∧ (s.driveTest c p).pressure = s.pressure ∧ (s.driveTest c p).view = s.view ∧ (s.driveTest c p).slip = s.slip
      ∧ (s.driveTest c p).link = s.link ∧ (s.driveTest c p).composer = s.composer
      ∧ (s.driveTest c p).fault = s.fault ∧ (s.driveTest c p).supply = s.supply
      ∧ (s.driveTest c p).standstill = s.standstill ∧ (s.driveTest c p).startup = s.startup
      ∧ (s.driveTest c p).service = s.service ∧ (s.driveTest c p).handed = s.handed
      ∧ (s.driveTest c p).pending = s.pending :=
  ⟨rfl, rfl, rfl, rfl, rfl, rfl, rfl, rfl, rfl, rfl, rfl, rfl, rfl, rfl, rfl⟩

@[simp] theorem State.takeCheck_frame (s : State) (t : Time) (c : Channel) (v : Valve) (milliamps : Nat) (loadFound : Bool) :
    (s.takeCheck t c v milliamps loadFound).now = s.now
      ∧ (s.takeCheck t c v milliamps loadFound).freeIndex = s.freeIndex
      ∧ (s.takeCheck t c v milliamps loadFound).speed = s.speed
      ∧ (s.takeCheck t c v milliamps loadFound).pressure = s.pressure
      ∧ (s.takeCheck t c v milliamps loadFound).view = s.view
      ∧ (s.takeCheck t c v milliamps loadFound).slip = s.slip
      ∧ (s.takeCheck t c v milliamps loadFound).link = s.link
      ∧ (s.takeCheck t c v milliamps loadFound).composer = s.composer
      ∧ (s.takeCheck t c v milliamps loadFound).fault = s.fault
      ∧ (s.takeCheck t c v milliamps loadFound).supply = s.supply
      ∧ (s.takeCheck t c v milliamps loadFound).standstill = s.standstill
      ∧ (s.takeCheck t c v milliamps loadFound).startup = s.startup
      ∧ (s.takeCheck t c v milliamps loadFound).service = s.service
      ∧ (s.takeCheck t c v milliamps loadFound).pending = s.pending :=
  by unfold State.takeCheck; dsimp only; (repeat' split) <;> simp

@[simp] theorem State.takeOverCurrent_frame (s : State) (t : Time) (c : Channel) (v : Valve) :
    (s.takeOverCurrent t c v).now = s.now ∧ (s.takeOverCurrent t c v).freeIndex = s.freeIndex
      ∧ (s.takeOverCurrent t c v).speed = s.speed ∧ (s.takeOverCurrent t c v).pressure = s.pressure
      ∧ (s.takeOverCurrent t c v).view = s.view ∧ (s.takeOverCurrent t c v).slip = s.slip
      ∧ (s.takeOverCurrent t c v).link = s.link ∧ (s.takeOverCurrent t c v).composer = s.composer
      ∧ (s.takeOverCurrent t c v).fault = s.fault ∧ (s.takeOverCurrent t c v).supply = s.supply
      ∧ (s.takeOverCurrent t c v).standstill = s.standstill ∧ (s.takeOverCurrent t c v).startup = s.startup
      ∧ (s.takeOverCurrent t c v).service = s.service ∧ (s.takeOverCurrent t c v).pending = s.pending :=
  by unfold State.takeOverCurrent; (repeat' split) <;> simp

@[simp] theorem State.capture_frame (s : State) (found : State) (n : Notice) :
    (s.capture found n).now = s.now ∧ (s.capture found n).freeIndex = s.freeIndex
      ∧ (s.capture found n).speed = s.speed ∧ (s.capture found n).pressure = s.pressure
      ∧ (s.capture found n).view = s.view ∧ (s.capture found n).slip = s.slip
      ∧ (s.capture found n).driver = s.driver ∧ (s.capture found n).link = s.link
      ∧ (s.capture found n).composer = s.composer ∧ (s.capture found n).supply = s.supply
      ∧ (s.capture found n).standstill = s.standstill ∧ (s.capture found n).startup = s.startup
      ∧ (s.capture found n).service = s.service ∧ (s.capture found n).handed = s.handed
      ∧ (s.capture found n).pending = s.pending :=
  by unfold State.capture; (repeat' split) <;> simp

@[simp] theorem State.judgeSupply_frame (s : State) (t : Time) (x : ReadingClass) (value : Nat) :
    (s.judgeSupply t x value).now = s.now ∧ (s.judgeSupply t x value).freeIndex = s.freeIndex
      ∧ (s.judgeSupply t x value).speed = s.speed ∧ (s.judgeSupply t x value).pressure = s.pressure
      ∧ (s.judgeSupply t x value).view = s.view ∧ (s.judgeSupply t x value).slip = s.slip
      ∧ (s.judgeSupply t x value).driver = s.driver ∧ (s.judgeSupply t x value).link = s.link
      ∧ (s.judgeSupply t x value).composer = s.composer ∧ (s.judgeSupply t x value).fault = s.fault
      ∧ (s.judgeSupply t x value).standstill = s.standstill ∧ (s.judgeSupply t x value).startup = s.startup
      ∧ (s.judgeSupply t x value).service = s.service ∧ (s.judgeSupply t x value).pending = s.pending :=
  ⟨rfl, rfl, rfl, rfl, rfl, rfl, rfl, rfl, rfl, rfl, rfl, rfl, rfl, rfl⟩

@[simp] theorem State.settleSag_frame (s : State) :
    (s.settleSag).now = s.now ∧ (s.settleSag).freeIndex = s.freeIndex ∧ (s.settleSag).speed = s.speed
      ∧ (s.settleSag).pressure = s.pressure ∧ (s.settleSag).view = s.view ∧ (s.settleSag).slip = s.slip
      ∧ (s.settleSag).driver = s.driver ∧ (s.settleSag).link = s.link ∧ (s.settleSag).composer = s.composer
      ∧ (s.settleSag).supply = s.supply ∧ (s.settleSag).standstill = s.standstill
      ∧ (s.settleSag).startup = s.startup ∧ (s.settleSag).service = s.service ∧ (s.settleSag).handed = s.handed
      ∧ (s.settleSag).pending = s.pending :=
  by unfold State.settleSag; (repeat' split) <;> simp

@[simp] theorem State.wake_frame (s : State) (w : WakeEvent) :
    (s.wake w).now = s.now ∧ (s.wake w).freeIndex = s.freeIndex ∧ (s.wake w).speed = s.speed
      ∧ (s.wake w).pressure = s.pressure ∧ (s.wake w).view = s.view ∧ (s.wake w).slip = s.slip
      ∧ (s.wake w).driver = s.driver ∧ (s.wake w).link = s.link ∧ (s.wake w).composer = s.composer
      ∧ (s.wake w).fault = s.fault ∧ (s.wake w).supply = s.supply ∧ (s.wake w).startup = s.startup
      ∧ (s.wake w).service = s.service ∧ (s.wake w).pending = s.pending :=
  by unfold State.wake; (repeat' split) <;> simp

@[simp] theorem State.expireReport_frame (s : State) (t : Time) :
    (s.expireReport t).now = s.now ∧ (s.expireReport t).freeIndex = s.freeIndex
      ∧ (s.expireReport t).speed = s.speed ∧ (s.expireReport t).pressure = s.pressure
      ∧ (s.expireReport t).view = s.view ∧ (s.expireReport t).slip = s.slip ∧ (s.expireReport t).driver = s.driver
      ∧ (s.expireReport t).fault = s.fault ∧ (s.expireReport t).supply = s.supply
      ∧ (s.expireReport t).standstill = s.standstill ∧ (s.expireReport t).startup = s.startup
      ∧ (s.expireReport t).service = s.service ∧ (s.expireReport t).handed = s.handed
      ∧ (s.expireReport t).pending = s.pending :=
  by unfold State.expireReport; (repeat' split) <;> simp

@[simp] theorem State.reportQuietChange_frame (s : State) (intoQuiet : Bool) :
    (s.reportQuietChange intoQuiet).now = s.now ∧ (s.reportQuietChange intoQuiet).freeIndex = s.freeIndex
      ∧ (s.reportQuietChange intoQuiet).speed = s.speed ∧ (s.reportQuietChange intoQuiet).pressure = s.pressure
      ∧ (s.reportQuietChange intoQuiet).view = s.view ∧ (s.reportQuietChange intoQuiet).slip = s.slip
      ∧ (s.reportQuietChange intoQuiet).driver = s.driver ∧ (s.reportQuietChange intoQuiet).fault = s.fault
      ∧ (s.reportQuietChange intoQuiet).supply = s.supply
      ∧ (s.reportQuietChange intoQuiet).standstill = s.standstill
      ∧ (s.reportQuietChange intoQuiet).startup = s.startup ∧ (s.reportQuietChange intoQuiet).service = s.service
      ∧ (s.reportQuietChange intoQuiet).handed = s.handed ∧ (s.reportQuietChange intoQuiet).pending = s.pending :=
  by unfold State.reportQuietChange; (repeat' split) <;> simp

@[simp] theorem State.judgeSilence_frame (s : State) (t : Time) :
    (s.judgeSilence t).now = s.now ∧ (s.judgeSilence t).freeIndex = s.freeIndex
      ∧ (s.judgeSilence t).speed = s.speed ∧ (s.judgeSilence t).pressure = s.pressure
      ∧ (s.judgeSilence t).view = s.view ∧ (s.judgeSilence t).slip = s.slip ∧ (s.judgeSilence t).driver = s.driver
      ∧ (s.judgeSilence t).composer = s.composer ∧ (s.judgeSilence t).fault = s.fault
      ∧ (s.judgeSilence t).supply = s.supply ∧ (s.judgeSilence t).standstill = s.standstill
      ∧ (s.judgeSilence t).startup = s.startup ∧ (s.judgeSilence t).service = s.service
      ∧ (s.judgeSilence t).pending = s.pending :=
  by unfold State.judgeSilence; (repeat' split) <;> simp

@[simp] theorem State.settleLine_frame (s : State) (x : LineState) :
    (s.settleLine x).now = s.now ∧ (s.settleLine x).freeIndex = s.freeIndex ∧ (s.settleLine x).speed = s.speed
      ∧ (s.settleLine x).pressure = s.pressure ∧ (s.settleLine x).view = s.view ∧ (s.settleLine x).slip = s.slip
      ∧ (s.settleLine x).driver = s.driver ∧ (s.settleLine x).composer = s.composer ∧ (s.settleLine x).fault = s.fault
      ∧ (s.settleLine x).supply = s.supply ∧ (s.settleLine x).standstill = s.standstill
      ∧ (s.settleLine x).startup = s.startup ∧ (s.settleLine x).service = s.service
      ∧ (s.settleLine x).pending = s.pending ∧ (s.settleLine x).handed = s.handed :=
  by unfold State.settleLine; split <;> simp

@[simp] theorem State.readBits_frame (s : State) (bits : List Bit) :
    (s.readBits bits).now = s.now ∧ (s.readBits bits).freeIndex = s.freeIndex ∧ (s.readBits bits).speed = s.speed
      ∧ (s.readBits bits).pressure = s.pressure ∧ (s.readBits bits).view = s.view ∧ (s.readBits bits).slip = s.slip
      ∧ (s.readBits bits).driver = s.driver ∧ (s.readBits bits).composer = s.composer
      ∧ (s.readBits bits).fault = s.fault ∧ (s.readBits bits).supply = s.supply
      ∧ (s.readBits bits).standstill = s.standstill ∧ (s.readBits bits).startup = s.startup
      ∧ (s.readBits bits).service = s.service ∧ (s.readBits bits).handed = s.handed
      ∧ (s.readBits bits).pending = s.pending :=
  by unfold State.readBits; (repeat' split) <;> simp

@[simp] theorem State.reframe_frame (s : State) (k : Nat) :
    (s.reframe k).now = s.now ∧ (s.reframe k).freeIndex = s.freeIndex ∧ (s.reframe k).speed = s.speed
      ∧ (s.reframe k).pressure = s.pressure ∧ (s.reframe k).view = s.view ∧ (s.reframe k).slip = s.slip
      ∧ (s.reframe k).driver = s.driver ∧ (s.reframe k).composer = s.composer ∧ (s.reframe k).fault = s.fault
      ∧ (s.reframe k).supply = s.supply ∧ (s.reframe k).standstill = s.standstill
      ∧ (s.reframe k).startup = s.startup ∧ (s.reframe k).service = s.service ∧ (s.reframe k).handed = s.handed
      ∧ (s.reframe k).pending = s.pending :=
  by unfold State.reframe; (repeat' split) <;> simp

@[simp] theorem State.takeStuck_frame (s : State) :
    (s.takeStuck).now = s.now ∧ (s.takeStuck).freeIndex = s.freeIndex ∧ (s.takeStuck).speed = s.speed
      ∧ (s.takeStuck).pressure = s.pressure ∧ (s.takeStuck).view = s.view ∧ (s.takeStuck).slip = s.slip
      ∧ (s.takeStuck).driver = s.driver ∧ (s.takeStuck).composer = s.composer ∧ (s.takeStuck).fault = s.fault
      ∧ (s.takeStuck).supply = s.supply ∧ (s.takeStuck).standstill = s.standstill
      ∧ (s.takeStuck).startup = s.startup ∧ (s.takeStuck).service = s.service ∧ (s.takeStuck).pending = s.pending :=
  by unfold State.takeStuck; (repeat' split) <;> simp

@[simp] theorem State.acceptTest_frame (s : State) (c : Channel) :
    (s.acceptTest c).now = s.now ∧ (s.acceptTest c).freeIndex = s.freeIndex ∧ (s.acceptTest c).speed = s.speed
      ∧ (s.acceptTest c).pressure = s.pressure ∧ (s.acceptTest c).view = s.view ∧ (s.acceptTest c).slip = s.slip
      ∧ (s.acceptTest c).driver = s.driver ∧ (s.acceptTest c).link = s.link
      ∧ (s.acceptTest c).composer = s.composer ∧ (s.acceptTest c).fault = s.fault
      ∧ (s.acceptTest c).supply = s.supply ∧ (s.acceptTest c).standstill = s.standstill
      ∧ (s.acceptTest c).startup = s.startup ∧ (s.acceptTest c).pending = s.pending :=
  ⟨rfl, rfl, rfl, rfl, rfl, rfl, rfl, rfl, rfl, rfl, rfl, rfl, rfl, rfl⟩

@[simp] theorem State.enterTestStep_frame (s : State) (c : Channel) (round : Nat) (x : TestStep) (t : Time) :
    (s.enterTestStep c round x t).now = s.now ∧ (s.enterTestStep c round x t).freeIndex = s.freeIndex
      ∧ (s.enterTestStep c round x t).speed = s.speed ∧ (s.enterTestStep c round x t).pressure = s.pressure
      ∧ (s.enterTestStep c round x t).view = s.view ∧ (s.enterTestStep c round x t).slip = s.slip
      ∧ (s.enterTestStep c round x t).driver = s.driver ∧ (s.enterTestStep c round x t).link = s.link
      ∧ (s.enterTestStep c round x t).composer = s.composer ∧ (s.enterTestStep c round x t).fault = s.fault
      ∧ (s.enterTestStep c round x t).supply = s.supply ∧ (s.enterTestStep c round x t).standstill = s.standstill
      ∧ (s.enterTestStep c round x t).startup = s.startup ∧ (s.enterTestStep c round x t).pending = s.pending :=
  ⟨rfl, rfl, rfl, rfl, rfl, rfl, rfl, rfl, rfl, rfl, rfl, rfl, rfl, rfl⟩

@[simp] theorem State.setPhase_frame (s : State) (c : Channel) (p : Phase) :
    (s.setPhase c p).now = s.now ∧ (s.setPhase c p).freeIndex = s.freeIndex ∧ (s.setPhase c p).speed = s.speed
      ∧ (s.setPhase c p).pressure = s.pressure ∧ (s.setPhase c p).view = s.view
      ∧ (s.setPhase c p).driver = s.driver ∧ (s.setPhase c p).link = s.link
      ∧ (s.setPhase c p).composer = s.composer ∧ (s.setPhase c p).fault = s.fault
      ∧ (s.setPhase c p).supply = s.supply ∧ (s.setPhase c p).standstill = s.standstill
      ∧ (s.setPhase c p).startup = s.startup ∧ (s.setPhase c p).service = s.service
      ∧ (s.setPhase c p).pending = s.pending :=
  ⟨rfl, rfl, rfl, rfl, rfl, rfl, rfl, rfl, rfl, rfl, rfl, rfl, rfl, rfl⟩

@[simp] theorem State.completeRead_frame (s : State) (t : Time) (bs : List Byte) :
    (s.completeRead t bs).now = s.now ∧ (s.completeRead t bs).freeIndex = s.freeIndex
      ∧ (s.completeRead t bs).view = s.view ∧ (s.completeRead t bs).slip = s.slip
      ∧ (s.completeRead t bs).link = s.link ∧ (s.completeRead t bs).composer = s.composer
      ∧ (s.completeRead t bs).fault = s.fault ∧ (s.completeRead t bs).supply = s.supply
      ∧ (s.completeRead t bs).standstill = s.standstill ∧ (s.completeRead t bs).service = s.service
      ∧ (s.completeRead t bs).handed = s.handed ∧ (s.completeRead t bs).pending = s.pending :=
  by unfold State.completeRead; (repeat' split) <;> simp

@[simp] theorem State.endStarting_frame (s : State) (t : Time) :
    (s.endStarting t).now = s.now ∧ (s.endStarting t).freeIndex = s.freeIndex ∧ (s.endStarting t).speed = s.speed
      ∧ (s.endStarting t).pressure = s.pressure ∧ (s.endStarting t).view = s.view ∧ (s.endStarting t).slip = s.slip
      ∧ (s.endStarting t).driver = s.driver ∧ (s.endStarting t).link = s.link
      ∧ (s.endStarting t).composer = s.composer ∧ (s.endStarting t).fault = s.fault
      ∧ (s.endStarting t).supply = s.supply ∧ (s.endStarting t).standstill = s.standstill
      ∧ (s.endStarting t).service = s.service ∧ (s.endStarting t).pending = s.pending :=
  by unfold State.endStarting; (repeat' split) <;> simp

@[simp] theorem State.forceAll_frame (s : State) :
    (s.forceAll).now = s.now ∧ (s.forceAll).freeIndex = s.freeIndex ∧ (s.forceAll).speed = s.speed
      ∧ (s.forceAll).pressure = s.pressure ∧ (s.forceAll).view = s.view ∧ (s.forceAll).driver = s.driver
      ∧ (s.forceAll).link = s.link ∧ (s.forceAll).composer = s.composer ∧ (s.forceAll).fault = s.fault
      ∧ (s.forceAll).supply = s.supply ∧ (s.forceAll).standstill = s.standstill ∧ (s.forceAll).startup = s.startup
      ∧ (s.forceAll).service = s.service ∧ (s.forceAll).pending = s.pending :=
  by simp [State.forceAll]

@[simp] theorem State.acceptStatus_frame (s : State) (p : Position) (r : ReadStatus) :
    (s.acceptStatus p r).now = s.now ∧ (s.acceptStatus p r).freeIndex = s.freeIndex
      ∧ (s.acceptStatus p r).speed = s.speed ∧ (s.acceptStatus p r).pressure = s.pressure
      ∧ (s.acceptStatus p r).slip = s.slip ∧ (s.acceptStatus p r).driver = s.driver
      ∧ (s.acceptStatus p r).composer = s.composer ∧ (s.acceptStatus p r).fault = s.fault
      ∧ (s.acceptStatus p r).supply = s.supply ∧ (s.acceptStatus p r).standstill = s.standstill
      ∧ (s.acceptStatus p r).startup = s.startup ∧ (s.acceptStatus p r).service = s.service
      ∧ (s.acceptStatus p r).pending = s.pending :=
  by unfold State.acceptStatus; (repeat' split) <;> simp

@[simp] theorem State.applyAlerts_frame (s : State) (p : Position) (alerts : List ReadAlert) :
    (s.applyAlerts p alerts).now = s.now ∧ (s.applyAlerts p alerts).freeIndex = s.freeIndex
      ∧ (s.applyAlerts p alerts).speed = s.speed ∧ (s.applyAlerts p alerts).pressure = s.pressure
      ∧ (s.applyAlerts p alerts).slip = s.slip ∧ (s.applyAlerts p alerts).driver = s.driver
      ∧ (s.applyAlerts p alerts).composer = s.composer ∧ (s.applyAlerts p alerts).fault = s.fault
      ∧ (s.applyAlerts p alerts).supply = s.supply ∧ (s.applyAlerts p alerts).standstill = s.standstill
      ∧ (s.applyAlerts p alerts).startup = s.startup ∧ (s.applyAlerts p alerts).service = s.service
      ∧ (s.applyAlerts p alerts).handed = s.handed ∧ (s.applyAlerts p alerts).pending = s.pending :=
  by unfold State.applyAlerts; dsimp only; (repeat' split) <;> simp

@[simp] theorem State.takePair_frame (s : State) (pair : Sides Sample) :
    (s.takePair pair).now = s.now ∧ (s.takePair pair).freeIndex = s.freeIndex ∧ (s.takePair pair).speed = s.speed
      ∧ (s.takePair pair).pressure = s.pressure ∧ (s.takePair pair).slip = s.slip
      ∧ (s.takePair pair).driver = s.driver ∧ (s.takePair pair).link = s.link
      ∧ (s.takePair pair).composer = s.composer ∧ (s.takePair pair).fault = s.fault
      ∧ (s.takePair pair).supply = s.supply ∧ (s.takePair pair).startup = s.startup
      ∧ (s.takePair pair).service = s.service ∧ (s.takePair pair).pending = s.pending :=
  by unfold State.takePair; (repeat' split) <;> simp

@[simp] theorem State.clearCause_frame (s : State) (c : Reversible) :
    (s.clearCause c).now = s.now ∧ (s.clearCause c).freeIndex = s.freeIndex ∧ (s.clearCause c).speed = s.speed
      ∧ (s.clearCause c).pressure = s.pressure ∧ (s.clearCause c).view = s.view ∧ (s.clearCause c).slip = s.slip
      ∧ (s.clearCause c).driver = s.driver ∧ (s.clearCause c).link = s.link
      ∧ (s.clearCause c).composer = s.composer ∧ (s.clearCause c).supply = s.supply
      ∧ (s.clearCause c).startup = s.startup ∧ (s.clearCause c).service = s.service
      ∧ (s.clearCause c).pending = s.pending :=
  by unfold State.clearCause; (repeat' split) <;> simp

@[simp] theorem State.forceWithAlert_frame (s : State) (cause : ChannelCause) (c : Channel) :
    (s.forceWithAlert cause c).now = s.now ∧ (s.forceWithAlert cause c).freeIndex = s.freeIndex
      ∧ (s.forceWithAlert cause c).speed = s.speed ∧ (s.forceWithAlert cause c).pressure = s.pressure
      ∧ (s.forceWithAlert cause c).view = s.view ∧ (s.forceWithAlert cause c).driver = s.driver
      ∧ (s.forceWithAlert cause c).link = s.link ∧ (s.forceWithAlert cause c).composer = s.composer
      ∧ (s.forceWithAlert cause c).fault = s.fault ∧ (s.forceWithAlert cause c).supply = s.supply
      ∧ (s.forceWithAlert cause c).standstill = s.standstill ∧ (s.forceWithAlert cause c).startup = s.startup
      ∧ (s.forceWithAlert cause c).service = s.service ∧ (s.forceWithAlert cause c).pending = s.pending :=
  by unfold State.forceWithAlert; (repeat' split) <;> simp

@[simp] theorem State.toHeld_frame (s : State) (code : Nat) :
    (s.toHeld code).now = s.now ∧ (s.toHeld code).freeIndex = s.freeIndex ∧ (s.toHeld code).speed = s.speed
      ∧ (s.toHeld code).pressure = s.pressure ∧ (s.toHeld code).view = s.view ∧ (s.toHeld code).slip = s.slip
      ∧ (s.toHeld code).driver = s.driver ∧ (s.toHeld code).link = s.link ∧ (s.toHeld code).composer = s.composer
      ∧ (s.toHeld code).supply = s.supply ∧ (s.toHeld code).startup = s.startup
      ∧ (s.toHeld code).service = s.service ∧ (s.toHeld code).pending = s.pending :=
  by simp [State.toHeld]

@[simp] theorem State.brownOut_frame (s : State) (t : Time) :
    (s.brownOut t).freeIndex = s.freeIndex ∧ (s.brownOut t).pending = s.pending :=
  by unfold State.brownOut; (repeat' split) <;> simp

@[simp] theorem State.takeSupplySample_frame (s : State) (t : Time) (value : Nat) :
    (s.takeSupplySample t value).now = s.now ∧ (s.takeSupplySample t value).freeIndex = s.freeIndex
      ∧ (s.takeSupplySample t value).speed = s.speed ∧ (s.takeSupplySample t value).pressure = s.pressure
      ∧ (s.takeSupplySample t value).view = s.view ∧ (s.takeSupplySample t value).slip = s.slip
      ∧ (s.takeSupplySample t value).driver = s.driver ∧ (s.takeSupplySample t value).link = s.link
      ∧ (s.takeSupplySample t value).composer = s.composer ∧ (s.takeSupplySample t value).fault = s.fault
      ∧ (s.takeSupplySample t value).standstill = s.standstill ∧ (s.takeSupplySample t value).startup = s.startup
      ∧ (s.takeSupplySample t value).service = s.service ∧ (s.takeSupplySample t value).pending = s.pending :=
  by unfold State.takeSupplySample; (repeat' split) <;> simp

@[simp] theorem State.setQueue_frame (s : State) (q : List Alert) (drops : Nat) :
    (s.setQueue q drops).now = s.now ∧ (s.setQueue q drops).freeIndex = s.freeIndex
      ∧ (s.setQueue q drops).speed = s.speed ∧ (s.setQueue q drops).pressure = s.pressure
      ∧ (s.setQueue q drops).view = s.view ∧ (s.setQueue q drops).slip = s.slip
      ∧ (s.setQueue q drops).driver = s.driver ∧ (s.setQueue q drops).fault = s.fault
      ∧ (s.setQueue q drops).supply = s.supply ∧ (s.setQueue q drops).standstill = s.standstill
      ∧ (s.setQueue q drops).startup = s.startup ∧ (s.setQueue q drops).service = s.service
      ∧ (s.setQueue q drops).handed = s.handed ∧ (s.setQueue q drops).pending = s.pending :=
  ⟨rfl, rfl, rfl, rfl, rfl, rfl, rfl, rfl, rfl, rfl, rfl, rfl, rfl, rfl⟩

@[simp] theorem State.dispatchRequest_frame (s : State) (payload : List Byte) :
    (s.dispatchRequest payload).now = s.now ∧ (s.dispatchRequest payload).freeIndex = s.freeIndex
      ∧ (s.dispatchRequest payload).speed = s.speed ∧ (s.dispatchRequest payload).pressure = s.pressure
      ∧ (s.dispatchRequest payload).view = s.view ∧ (s.dispatchRequest payload).slip = s.slip
      ∧ (s.dispatchRequest payload).driver = s.driver ∧ (s.dispatchRequest payload).composer = s.composer
      ∧ (s.dispatchRequest payload).fault = s.fault ∧ (s.dispatchRequest payload).supply = s.supply
      ∧ (s.dispatchRequest payload).standstill = s.standstill ∧ (s.dispatchRequest payload).startup = s.startup
      ∧ (s.dispatchRequest payload).service = s.service ∧ (s.dispatchRequest payload).pending = s.pending :=
  by unfold State.dispatchRequest; (repeat' split) <;> simp

@[simp] theorem State.acceptRestart_frame (s : State) :
    (s.acceptRestart).now = s.now ∧ (s.acceptRestart).freeIndex = s.freeIndex ∧ (s.acceptRestart).speed = s.speed
      ∧ (s.acceptRestart).pressure = s.pressure ∧ (s.acceptRestart).view = s.view ∧ (s.acceptRestart).slip = s.slip
      ∧ (s.acceptRestart).driver = s.driver ∧ (s.acceptRestart).composer = s.composer
      ∧ (s.acceptRestart).fault = s.fault ∧ (s.acceptRestart).supply = s.supply
      ∧ (s.acceptRestart).standstill = s.standstill ∧ (s.acceptRestart).startup = s.startup
      ∧ (s.acceptRestart).handed = s.handed ∧ (s.acceptRestart).pending = s.pending :=
  ⟨rfl, rfl, rfl, rfl, rfl, rfl, rfl, rfl, rfl, rfl, rfl, rfl, rfl, rfl⟩

@[simp] theorem State.leaveTest_frame (s : State) (c : Channel) :
    (s.leaveTest c).now = s.now ∧ (s.leaveTest c).freeIndex = s.freeIndex ∧ (s.leaveTest c).speed = s.speed
      ∧ (s.leaveTest c).pressure = s.pressure ∧ (s.leaveTest c).view = s.view ∧ (s.leaveTest c).driver = s.driver
      ∧ (s.leaveTest c).link = s.link ∧ (s.leaveTest c).composer = s.composer ∧ (s.leaveTest c).fault = s.fault
      ∧ (s.leaveTest c).supply = s.supply ∧ (s.leaveTest c).standstill = s.standstill
      ∧ (s.leaveTest c).startup = s.startup ∧ (s.leaveTest c).service = s.service
      ∧ (s.leaveTest c).pending = s.pending :=
  by unfold State.leaveTest; (repeat' split) <;> simp

@[simp] theorem State.reply_frame (s : State) (kind : Byte) (o : ReplyOutcome) (why : ReplyReason) (data : List Byte) :
    (s.reply kind o why data).now = s.now ∧ (s.reply kind o why data).freeIndex = s.freeIndex
      ∧ (s.reply kind o why data).speed = s.speed ∧ (s.reply kind o why data).pressure = s.pressure
      ∧ (s.reply kind o why data).view = s.view ∧ (s.reply kind o why data).slip = s.slip
      ∧ (s.reply kind o why data).driver = s.driver ∧ (s.reply kind o why data).composer = s.composer
      ∧ (s.reply kind o why data).fault = s.fault ∧ (s.reply kind o why data).supply = s.supply
      ∧ (s.reply kind o why data).standstill = s.standstill ∧ (s.reply kind o why data).startup = s.startup
      ∧ (s.reply kind o why data).service = s.service ∧ (s.reply kind o why data).handed = s.handed
      ∧ (s.reply kind o why data).pending = s.pending :=
  ⟨rfl, rfl, rfl, rfl, rfl, rfl, rfl, rfl, rfl, rfl, rfl, rfl, rfl, rfl, rfl⟩

@[simp] theorem State.giveUp_frame (s : State) (m : Mode) :
    (s.giveUp m).now = s.now ∧ (s.giveUp m).freeIndex = s.freeIndex ∧ (s.giveUp m).speed = s.speed
      ∧ (s.giveUp m).pressure = s.pressure ∧ (s.giveUp m).view = s.view ∧ (s.giveUp m).driver = s.driver
      ∧ (s.giveUp m).link = s.link ∧ (s.giveUp m).composer = s.composer ∧ (s.giveUp m).supply = s.supply
      ∧ (s.giveUp m).startup = s.startup ∧ (s.giveUp m).service = s.service ∧ (s.giveUp m).pending = s.pending :=
  by unfold State.giveUp; (repeat' split) <;> simp

@[simp] theorem State.reversibleCause_frame (s : State) (c : Reversible) :
    (s.reversibleCause c).now = s.now ∧ (s.reversibleCause c).freeIndex = s.freeIndex
      ∧ (s.reversibleCause c).speed = s.speed ∧ (s.reversibleCause c).pressure = s.pressure
      ∧ (s.reversibleCause c).view = s.view ∧ (s.reversibleCause c).slip = s.slip
      ∧ (s.reversibleCause c).driver = s.driver ∧ (s.reversibleCause c).link = s.link
      ∧ (s.reversibleCause c).composer = s.composer ∧ (s.reversibleCause c).supply = s.supply
      ∧ (s.reversibleCause c).startup = s.startup ∧ (s.reversibleCause c).service = s.service
      ∧ (s.reversibleCause c).pending = s.pending :=
  by unfold State.reversibleCause; (repeat' split) <;> simp

@[simp] theorem State.endBrownOut_frame (s : State) (t : Time) :
    (s.endBrownOut t).now = s.now ∧ (s.endBrownOut t).freeIndex = s.freeIndex ∧ (s.endBrownOut t).speed = s.speed
      ∧ (s.endBrownOut t).pressure = s.pressure ∧ (s.endBrownOut t).view = s.view ∧ (s.endBrownOut t).slip = s.slip
      ∧ (s.endBrownOut t).driver = s.driver ∧ (s.endBrownOut t).link = s.link
      ∧ (s.endBrownOut t).composer = s.composer ∧ (s.endBrownOut t).fault = s.fault
      ∧ (s.endBrownOut t).standstill = s.standstill ∧ (s.endBrownOut t).startup = s.startup
      ∧ (s.endBrownOut t).service = s.service ∧ (s.endBrownOut t).handed = s.handed
      ∧ (s.endBrownOut t).pending = s.pending :=
  by unfold State.endBrownOut; (repeat' split) <;> simp

@[simp] theorem State.takeLowVoltage_frame (s : State) (t : Time) :
    (s.takeLowVoltage t).now = s.now ∧ (s.takeLowVoltage t).speed = s.speed
      ∧ (s.takeLowVoltage t).pressure = s.pressure ∧ (s.takeLowVoltage t).view = s.view
      ∧ (s.takeLowVoltage t).slip = s.slip ∧ (s.takeLowVoltage t).driver = s.driver
      ∧ (s.takeLowVoltage t).link = s.link ∧ (s.takeLowVoltage t).composer = s.composer
      ∧ (s.takeLowVoltage t).fault = s.fault ∧ (s.takeLowVoltage t).standstill = s.standstill
      ∧ (s.takeLowVoltage t).startup = s.startup ∧ (s.takeLowVoltage t).service = s.service
      ∧ (s.takeLowVoltage t).pending = s.pending :=
  by unfold State.takeLowVoltage; (repeat' split) <;> simp

@[simp] theorem State.returnGroup_frame (s : State) :
    (s.returnGroup).now = s.now ∧ (s.returnGroup).freeIndex = s.freeIndex ∧ (s.returnGroup).speed = s.speed
      ∧ (s.returnGroup).pressure = s.pressure ∧ (s.returnGroup).view = s.view ∧ (s.returnGroup).slip = s.slip
      ∧ (s.returnGroup).driver = s.driver ∧ (s.returnGroup).fault = s.fault ∧ (s.returnGroup).supply = s.supply
      ∧ (s.returnGroup).standstill = s.standstill ∧ (s.returnGroup).startup = s.startup
      ∧ (s.returnGroup).service = s.service ∧ (s.returnGroup).handed = s.handed
      ∧ (s.returnGroup).pending = s.pending :=
  ⟨rfl, rfl, rfl, rfl, rfl, rfl, rfl, rfl, rfl, rfl, rfl, rfl, rfl, rfl⟩

@[simp] theorem State.takeAlertHanded_frame (s : State) (k : AlertKind) (c : Option Channel) (value : Nat) :
    (s.takeAlertHanded k c value).now = s.now ∧ (s.takeAlertHanded k c value).freeIndex = s.freeIndex
      ∧ (s.takeAlertHanded k c value).speed = s.speed ∧ (s.takeAlertHanded k c value).pressure = s.pressure
      ∧ (s.takeAlertHanded k c value).view = s.view ∧ (s.takeAlertHanded k c value).slip = s.slip
      ∧ (s.takeAlertHanded k c value).driver = s.driver ∧ (s.takeAlertHanded k c value).fault = s.fault
      ∧ (s.takeAlertHanded k c value).supply = s.supply ∧ (s.takeAlertHanded k c value).standstill = s.standstill
      ∧ (s.takeAlertHanded k c value).startup = s.startup ∧ (s.takeAlertHanded k c value).service = s.service
      ∧ (s.takeAlertHanded k c value).handed = s.handed ∧ (s.takeAlertHanded k c value).pending = s.pending :=
  by unfold State.takeAlertHanded; (repeat' split) <;> simp

@[simp] theorem State.completeFrame_frame (s : State) :
    (s.completeFrame).now = s.now ∧ (s.completeFrame).freeIndex = s.freeIndex ∧ (s.completeFrame).speed = s.speed
      ∧ (s.completeFrame).pressure = s.pressure ∧ (s.completeFrame).view = s.view ∧ (s.completeFrame).slip = s.slip
      ∧ (s.completeFrame).driver = s.driver ∧ (s.completeFrame).composer = s.composer
      ∧ (s.completeFrame).fault = s.fault ∧ (s.completeFrame).supply = s.supply
      ∧ (s.completeFrame).standstill = s.standstill ∧ (s.completeFrame).startup = s.startup
      ∧ (s.completeFrame).service = s.service ∧ (s.completeFrame).pending = s.pending :=
  by unfold State.completeFrame; (repeat' split) <;> simp

@[simp] theorem State.returnFrame_frame (s : State) (o : AlertReturn) :
    (s.returnFrame o).now = s.now ∧ (s.returnFrame o).freeIndex = s.freeIndex ∧ (s.returnFrame o).speed = s.speed
      ∧ (s.returnFrame o).pressure = s.pressure ∧ (s.returnFrame o).view = s.view ∧ (s.returnFrame o).slip = s.slip
      ∧ (s.returnFrame o).driver = s.driver ∧ (s.returnFrame o).composer = s.composer
      ∧ (s.returnFrame o).fault = s.fault ∧ (s.returnFrame o).supply = s.supply
      ∧ (s.returnFrame o).standstill = s.standstill ∧ (s.returnFrame o).startup = s.startup
      ∧ (s.returnFrame o).service = s.service ∧ (s.returnFrame o).pending = s.pending :=
  by unfold State.returnFrame; (repeat' split) <;> simp

@[simp] theorem State.startChosen_frame (s : State) :
    (s.startChosen).now = s.now ∧ (s.startChosen).freeIndex = s.freeIndex ∧ (s.startChosen).speed = s.speed
      ∧ (s.startChosen).pressure = s.pressure ∧ (s.startChosen).view = s.view ∧ (s.startChosen).slip = s.slip
      ∧ (s.startChosen).driver = s.driver ∧ (s.startChosen).fault = s.fault ∧ (s.startChosen).supply = s.supply
      ∧ (s.startChosen).standstill = s.standstill ∧ (s.startChosen).startup = s.startup
      ∧ (s.startChosen).service = s.service ∧ (s.startChosen).handed = s.handed
      ∧ (s.startChosen).pending = s.pending :=
  by unfold State.startChosen; (repeat' split) <;> simp

@[simp] theorem State.abortTest_frame (s : State) (a : AbortEvent) (c : Channel) (round : Nat) (x : TestStep) :
    (s.abortTest a c round x).now = s.now ∧ (s.abortTest a c round x).freeIndex = s.freeIndex
      ∧ (s.abortTest a c round x).speed = s.speed ∧ (s.abortTest a c round x).pressure = s.pressure
      ∧ (s.abortTest a c round x).view = s.view ∧ (s.abortTest a c round x).driver = s.driver
      ∧ (s.abortTest a c round x).composer = s.composer ∧ (s.abortTest a c round x).fault = s.fault
      ∧ (s.abortTest a c round x).supply = s.supply ∧ (s.abortTest a c round x).standstill = s.standstill
      ∧ (s.abortTest a c round x).startup = s.startup ∧ (s.abortTest a c round x).pending = s.pending :=
  by unfold State.abortTest; (repeat' split) <;> simp

@[simp] theorem State.acceptClear_frame (s : State) :
    (s.acceptClear).now = s.now ∧ (s.acceptClear).freeIndex = s.freeIndex ∧ (s.acceptClear).speed = s.speed
      ∧ (s.acceptClear).pressure = s.pressure ∧ (s.acceptClear).view = s.view ∧ (s.acceptClear).slip = s.slip
      ∧ (s.acceptClear).driver = s.driver ∧ (s.acceptClear).composer = s.composer ∧ (s.acceptClear).fault = s.fault
      ∧ (s.acceptClear).supply = s.supply ∧ (s.acceptClear).standstill = s.standstill
      ∧ (s.acceptClear).startup = s.startup ∧ (s.acceptClear).service = s.service
      ∧ (s.acceptClear).pending = s.pending :=
  ⟨rfl, rfl, rfl, rfl, rfl, rfl, rfl, rfl, rfl, rfl, rfl, rfl, rfl, rfl⟩

@[simp] theorem State.answerRecord_frame (s : State) :
    (s.answerRecord).now = s.now ∧ (s.answerRecord).freeIndex = s.freeIndex ∧ (s.answerRecord).speed = s.speed
      ∧ (s.answerRecord).pressure = s.pressure ∧ (s.answerRecord).view = s.view ∧ (s.answerRecord).slip = s.slip
      ∧ (s.answerRecord).driver = s.driver ∧ (s.answerRecord).composer = s.composer
      ∧ (s.answerRecord).fault = s.fault ∧ (s.answerRecord).supply = s.supply
      ∧ (s.answerRecord).standstill = s.standstill ∧ (s.answerRecord).startup = s.startup
      ∧ (s.answerRecord).service = s.service ∧ (s.answerRecord).handed = s.handed
      ∧ (s.answerRecord).pending = s.pending :=
  ⟨rfl, rfl, rfl, rfl, rfl, rfl, rfl, rfl, rfl, rfl, rfl, rfl, rfl, rfl, rfl⟩

@[simp] theorem State.answerStats_frame (s : State) :
    (s.answerStats).now = s.now ∧ (s.answerStats).freeIndex = s.freeIndex ∧ (s.answerStats).speed = s.speed
      ∧ (s.answerStats).pressure = s.pressure ∧ (s.answerStats).view = s.view ∧ (s.answerStats).slip = s.slip
      ∧ (s.answerStats).driver = s.driver ∧ (s.answerStats).composer = s.composer ∧ (s.answerStats).fault = s.fault
      ∧ (s.answerStats).supply = s.supply ∧ (s.answerStats).standstill = s.standstill
      ∧ (s.answerStats).startup = s.startup ∧ (s.answerStats).service = s.service
      ∧ (s.answerStats).handed = s.handed ∧ (s.answerStats).pending = s.pending :=
  ⟨rfl, rfl, rfl, rfl, rfl, rfl, rfl, rfl, rfl, rfl, rfl, rfl, rfl, rfl, rfl⟩

@[simp] theorem State.finishTest_frame (s : State) (c : Channel) :
    (s.finishTest c).now = s.now ∧ (s.finishTest c).freeIndex = s.freeIndex ∧ (s.finishTest c).speed = s.speed
      ∧ (s.finishTest c).pressure = s.pressure ∧ (s.finishTest c).view = s.view
      ∧ (s.finishTest c).driver = s.driver ∧ (s.finishTest c).composer = s.composer
      ∧ (s.finishTest c).fault = s.fault ∧ (s.finishTest c).supply = s.supply
      ∧ (s.finishTest c).standstill = s.standstill ∧ (s.finishTest c).startup = s.startup
      ∧ (s.finishTest c).pending = s.pending :=
  by simp [State.finishTest]

@[simp] theorem State.refuse_frame (s : State) (kind : Byte) (why : ReplyReason) :
    (s.refuse kind why).now = s.now ∧ (s.refuse kind why).freeIndex = s.freeIndex
      ∧ (s.refuse kind why).speed = s.speed ∧ (s.refuse kind why).pressure = s.pressure
      ∧ (s.refuse kind why).view = s.view ∧ (s.refuse kind why).slip = s.slip
      ∧ (s.refuse kind why).driver = s.driver ∧ (s.refuse kind why).composer = s.composer
      ∧ (s.refuse kind why).fault = s.fault ∧ (s.refuse kind why).supply = s.supply
      ∧ (s.refuse kind why).standstill = s.standstill ∧ (s.refuse kind why).startup = s.startup
      ∧ (s.refuse kind why).service = s.service ∧ (s.refuse kind why).handed = s.handed
      ∧ (s.refuse kind why).pending = s.pending :=
  ⟨rfl, rfl, rfl, rfl, rfl, rfl, rfl, rfl, rfl, rfl, rfl, rfl, rfl, rfl, rfl⟩

@[simp] theorem State.toLatched_frame (s : State) (code : Nat) :
    (s.toLatched code).now = s.now ∧ (s.toLatched code).freeIndex = s.freeIndex
      ∧ (s.toLatched code).speed = s.speed ∧ (s.toLatched code).pressure = s.pressure
      ∧ (s.toLatched code).view = s.view ∧ (s.toLatched code).driver = s.driver ∧ (s.toLatched code).link = s.link
      ∧ (s.toLatched code).composer = s.composer ∧ (s.toLatched code).supply = s.supply
      ∧ (s.toLatched code).startup = s.startup ∧ (s.toLatched code).service = s.service
      ∧ (s.toLatched code).pending = s.pending :=
  by simp [State.toLatched]

@[simp] theorem State.toPassive_frame (s : State) (code : Nat) :
    (s.toPassive code).now = s.now ∧ (s.toPassive code).freeIndex = s.freeIndex
      ∧ (s.toPassive code).speed = s.speed ∧ (s.toPassive code).pressure = s.pressure
      ∧ (s.toPassive code).view = s.view ∧ (s.toPassive code).driver = s.driver ∧ (s.toPassive code).link = s.link
      ∧ (s.toPassive code).composer = s.composer ∧ (s.toPassive code).supply = s.supply
      ∧ (s.toPassive code).startup = s.startup ∧ (s.toPassive code).service = s.service
      ∧ (s.toPassive code).pending = s.pending :=
  by simp [State.toPassive]

@[simp] theorem State.countTransmitError_frame (s : State) (t : Time) :
    (s.countTransmitError t).now = s.now ∧ (s.countTransmitError t).freeIndex = s.freeIndex
      ∧ (s.countTransmitError t).speed = s.speed ∧ (s.countTransmitError t).pressure = s.pressure
      ∧ (s.countTransmitError t).view = s.view ∧ (s.countTransmitError t).slip = s.slip
      ∧ (s.countTransmitError t).driver = s.driver ∧ (s.countTransmitError t).composer = s.composer
      ∧ (s.countTransmitError t).fault = s.fault ∧ (s.countTransmitError t).supply = s.supply
      ∧ (s.countTransmitError t).standstill = s.standstill ∧ (s.countTransmitError t).startup = s.startup
      ∧ (s.countTransmitError t).service = s.service ∧ (s.countTransmitError t).pending = s.pending :=
  by simp [State.countTransmitError]

@[simp] theorem State.loseContention_frame (s : State) (k : Fin 8) :
    (s.loseContention k).now = s.now ∧ (s.loseContention k).freeIndex = s.freeIndex
      ∧ (s.loseContention k).speed = s.speed ∧ (s.loseContention k).pressure = s.pressure
      ∧ (s.loseContention k).view = s.view ∧ (s.loseContention k).slip = s.slip
      ∧ (s.loseContention k).driver = s.driver ∧ (s.loseContention k).composer = s.composer
      ∧ (s.loseContention k).fault = s.fault ∧ (s.loseContention k).supply = s.supply
      ∧ (s.loseContention k).standstill = s.standstill ∧ (s.loseContention k).startup = s.startup
      ∧ (s.loseContention k).service = s.service ∧ (s.loseContention k).pending = s.pending :=
  by unfold State.loseContention; (repeat' split) <;> simp

@[simp] theorem State.startFrame_frame (s : State) :
    (s.startFrame).now = s.now ∧ (s.startFrame).freeIndex = s.freeIndex ∧ (s.startFrame).speed = s.speed
      ∧ (s.startFrame).pressure = s.pressure ∧ (s.startFrame).view = s.view ∧ (s.startFrame).slip = s.slip
      ∧ (s.startFrame).driver = s.driver ∧ (s.startFrame).fault = s.fault ∧ (s.startFrame).supply = s.supply
      ∧ (s.startFrame).standstill = s.standstill ∧ (s.startFrame).startup = s.startup
      ∧ (s.startFrame).service = s.service ∧ (s.startFrame).handed = s.handed ∧ (s.startFrame).pending = s.pending :=
  by unfold State.startFrame; (repeat' split) <;> simp

@[simp] theorem State.judgeTest_frame (s : State) (arg : Byte) :
    (s.judgeTest arg).now = s.now ∧ (s.judgeTest arg).freeIndex = s.freeIndex ∧ (s.judgeTest arg).speed = s.speed
      ∧ (s.judgeTest arg).pressure = s.pressure ∧ (s.judgeTest arg).view = s.view ∧ (s.judgeTest arg).slip = s.slip
      ∧ (s.judgeTest arg).driver = s.driver ∧ (s.judgeTest arg).composer = s.composer
      ∧ (s.judgeTest arg).fault = s.fault ∧ (s.judgeTest arg).supply = s.supply
      ∧ (s.judgeTest arg).standstill = s.standstill ∧ (s.judgeTest arg).startup = s.startup
      ∧ (s.judgeTest arg).pending = s.pending :=
  by unfold State.judgeTest; (repeat' split) <;> simp

@[simp] theorem State.nextStep_frame (s : State) (c : Channel) (round : Nat) (x : TestStep) (t : Time) :
    (s.nextStep c round x t).now = s.now ∧ (s.nextStep c round x t).freeIndex = s.freeIndex
      ∧ (s.nextStep c round x t).speed = s.speed ∧ (s.nextStep c round x t).pressure = s.pressure
      ∧ (s.nextStep c round x t).view = s.view ∧ (s.nextStep c round x t).driver = s.driver
      ∧ (s.nextStep c round x t).composer = s.composer ∧ (s.nextStep c round x t).fault = s.fault
      ∧ (s.nextStep c round x t).supply = s.supply ∧ (s.nextStep c round x t).standstill = s.standstill
      ∧ (s.nextStep c round x t).startup = s.startup ∧ (s.nextStep c round x t).pending = s.pending :=
  by unfold State.nextStep; (repeat' split) <;> simp

@[simp] theorem State.startTest_frame (s : State) (c : Channel) :
    (s.startTest c).now = s.now ∧ (s.startTest c).freeIndex = s.freeIndex ∧ (s.startTest c).speed = s.speed
      ∧ (s.startTest c).pressure = s.pressure ∧ (s.startTest c).view = s.view ∧ (s.startTest c).driver = s.driver
      ∧ (s.startTest c).composer = s.composer ∧ (s.startTest c).fault = s.fault ∧ (s.startTest c).supply = s.supply
      ∧ (s.startTest c).standstill = s.standstill ∧ (s.startTest c).startup = s.startup
      ∧ (s.startTest c).pending = s.pending :=
  by unfold State.startTest; (repeat' split) <;> simp

@[simp] theorem State.takeAbort_frame (s : State) (a : AbortEvent) :
    (s.takeAbort a).now = s.now ∧ (s.takeAbort a).freeIndex = s.freeIndex ∧ (s.takeAbort a).speed = s.speed
      ∧ (s.takeAbort a).pressure = s.pressure ∧ (s.takeAbort a).view = s.view ∧ (s.takeAbort a).driver = s.driver
      ∧ (s.takeAbort a).composer = s.composer ∧ (s.takeAbort a).fault = s.fault ∧ (s.takeAbort a).supply = s.supply
      ∧ (s.takeAbort a).standstill = s.standstill ∧ (s.takeAbort a).startup = s.startup
      ∧ (s.takeAbort a).pending = s.pending :=
  by unfold State.takeAbort; (repeat' split) <;> simp

@[simp] theorem State.moduleFault_frame (s : State) (code : Nat) :
    (s.moduleFault code).now = s.now ∧ (s.moduleFault code).freeIndex = s.freeIndex
      ∧ (s.moduleFault code).speed = s.speed ∧ (s.moduleFault code).pressure = s.pressure
      ∧ (s.moduleFault code).view = s.view ∧ (s.moduleFault code).driver = s.driver
      ∧ (s.moduleFault code).link = s.link ∧ (s.moduleFault code).composer = s.composer
      ∧ (s.moduleFault code).supply = s.supply ∧ (s.moduleFault code).startup = s.startup
      ∧ (s.moduleFault code).service = s.service ∧ (s.moduleFault code).pending = s.pending :=
  by unfold State.moduleFault; (repeat' split) <;> simp

@[simp] theorem State.positionClash_frame (s : State) :
    (s.positionClash).now = s.now ∧ (s.positionClash).freeIndex = s.freeIndex ∧ (s.positionClash).speed = s.speed
      ∧ (s.positionClash).pressure = s.pressure ∧ (s.positionClash).view = s.view
      ∧ (s.positionClash).driver = s.driver ∧ (s.positionClash).link = s.link
      ∧ (s.positionClash).composer = s.composer ∧ (s.positionClash).supply = s.supply
      ∧ (s.positionClash).startup = s.startup ∧ (s.positionClash).service = s.service
      ∧ (s.positionClash).pending = s.pending :=
  by unfold State.positionClash; (repeat' split) <;> simp

@[simp] theorem State.settleWorkingMode_frame (s : State) :
    (s.settleWorkingMode).now = s.now ∧ (s.settleWorkingMode).freeIndex = s.freeIndex
      ∧ (s.settleWorkingMode).speed = s.speed ∧ (s.settleWorkingMode).pressure = s.pressure
      ∧ (s.settleWorkingMode).view = s.view ∧ (s.settleWorkingMode).driver = s.driver
      ∧ (s.settleWorkingMode).link = s.link ∧ (s.settleWorkingMode).composer = s.composer
      ∧ (s.settleWorkingMode).supply = s.supply ∧ (s.settleWorkingMode).startup = s.startup
      ∧ (s.settleWorkingMode).service = s.service ∧ (s.settleWorkingMode).pending = s.pending :=
  by unfold State.settleWorkingMode; (repeat' split) <;> simp

@[simp] theorem State.takeMismatch_frame (s : State) (t : Time) (k : Nat) :
    (s.takeMismatch t k).now = s.now ∧ (s.takeMismatch t k).freeIndex = s.freeIndex
      ∧ (s.takeMismatch t k).speed = s.speed ∧ (s.takeMismatch t k).pressure = s.pressure
      ∧ (s.takeMismatch t k).view = s.view ∧ (s.takeMismatch t k).slip = s.slip
      ∧ (s.takeMismatch t k).driver = s.driver ∧ (s.takeMismatch t k).composer = s.composer
      ∧ (s.takeMismatch t k).fault = s.fault ∧ (s.takeMismatch t k).supply = s.supply
      ∧ (s.takeMismatch t k).standstill = s.standstill ∧ (s.takeMismatch t k).startup = s.startup
      ∧ (s.takeMismatch t k).service = s.service ∧ (s.takeMismatch t k).pending = s.pending :=
  by unfold State.takeMismatch; (repeat' split) <;> simp

@[simp] theorem State.judgeRequest_frame (s : State) (kind arg : Byte) :
    (s.judgeRequest kind arg).now = s.now ∧ (s.judgeRequest kind arg).freeIndex = s.freeIndex
      ∧ (s.judgeRequest kind arg).speed = s.speed ∧ (s.judgeRequest kind arg).pressure = s.pressure
      ∧ (s.judgeRequest kind arg).view = s.view ∧ (s.judgeRequest kind arg).slip = s.slip
      ∧ (s.judgeRequest kind arg).driver = s.driver ∧ (s.judgeRequest kind arg).composer = s.composer
      ∧ (s.judgeRequest kind arg).fault = s.fault ∧ (s.judgeRequest kind arg).supply = s.supply
      ∧ (s.judgeRequest kind arg).standstill = s.standstill ∧ (s.judgeRequest kind arg).startup = s.startup
      ∧ (s.judgeRequest kind arg).pending = s.pending :=
  by simp only [State.judgeRequest, State.judgeCommon, State.acceptClear, State.acceptRestart]; (repeat' split) <;> simp

@[simp] theorem State.takeAnswer_frame (s : State) (accepted : Bool) :
    (s.takeAnswer accepted).now = s.now ∧ (s.takeAnswer accepted).freeIndex = s.freeIndex
      ∧ (s.takeAnswer accepted).speed = s.speed ∧ (s.takeAnswer accepted).pressure = s.pressure
      ∧ (s.takeAnswer accepted).view = s.view ∧ (s.takeAnswer accepted).driver = s.driver
      ∧ (s.takeAnswer accepted).composer = s.composer ∧ (s.takeAnswer accepted).fault = s.fault
      ∧ (s.takeAnswer accepted).supply = s.supply ∧ (s.takeAnswer accepted).standstill = s.standstill
      ∧ (s.takeAnswer accepted).startup = s.startup ∧ (s.takeAnswer accepted).pending = s.pending :=
  by unfold State.takeAnswer; (repeat' split) <;> simp

@[simp] theorem State.takeStepExpiry_frame (s : State) (t : Time) :
    (s.takeStepExpiry t).now = s.now ∧ (s.takeStepExpiry t).freeIndex = s.freeIndex
      ∧ (s.takeStepExpiry t).speed = s.speed ∧ (s.takeStepExpiry t).pressure = s.pressure
      ∧ (s.takeStepExpiry t).view = s.view ∧ (s.takeStepExpiry t).driver = s.driver
      ∧ (s.takeStepExpiry t).composer = s.composer ∧ (s.takeStepExpiry t).fault = s.fault
      ∧ (s.takeStepExpiry t).supply = s.supply ∧ (s.takeStepExpiry t).standstill = s.standstill
      ∧ (s.takeStepExpiry t).startup = s.startup ∧ (s.takeStepExpiry t).pending = s.pending :=
  by unfold State.takeStepExpiry; (repeat' split) <;> simp

@[simp] theorem State.rejectSender_frame (s : State) (c : SenderCase) :
    (s.rejectSender c).now = s.now ∧ (s.rejectSender c).freeIndex = s.freeIndex
      ∧ (s.rejectSender c).speed = s.speed ∧ (s.rejectSender c).pressure = s.pressure
      ∧ (s.rejectSender c).view = s.view ∧ (s.rejectSender c).slip = s.slip ∧ (s.rejectSender c).driver = s.driver
      ∧ (s.rejectSender c).composer = s.composer ∧ (s.rejectSender c).fault = s.fault
      ∧ (s.rejectSender c).supply = s.supply ∧ (s.rejectSender c).standstill = s.standstill
      ∧ (s.rejectSender c).startup = s.startup ∧ (s.rejectSender c).service = s.service
      ∧ (s.rejectSender c).pending = s.pending :=
  by unfold State.rejectSender; (repeat' split) <;> simp

@[simp] theorem State.judgeUsable_frame (s : State) :
    (s.judgeUsable).now = s.now ∧ (s.judgeUsable).freeIndex = s.freeIndex ∧ (s.judgeUsable).speed = s.speed
      ∧ (s.judgeUsable).pressure = s.pressure ∧ (s.judgeUsable).view = s.view ∧ (s.judgeUsable).driver = s.driver
      ∧ (s.judgeUsable).link = s.link ∧ (s.judgeUsable).composer = s.composer ∧ (s.judgeUsable).supply = s.supply
      ∧ (s.judgeUsable).startup = s.startup ∧ (s.judgeUsable).service = s.service
      ∧ (s.judgeUsable).pending = s.pending :=
  by unfold State.judgeUsable; (repeat' split) <;> simp

@[simp] theorem State.dispatch_frame (s : State) (kind : Nat) (sender : Fin 8) (payload : List Byte) :
    (s.dispatch kind sender payload).now = s.now ∧ (s.dispatch kind sender payload).freeIndex = s.freeIndex
      ∧ (s.dispatch kind sender payload).speed = s.speed ∧ (s.dispatch kind sender payload).pressure = s.pressure
      ∧ (s.dispatch kind sender payload).view = s.view ∧ (s.dispatch kind sender payload).slip = s.slip
      ∧ (s.dispatch kind sender payload).driver = s.driver ∧ (s.dispatch kind sender payload).composer = s.composer
      ∧ (s.dispatch kind sender payload).fault = s.fault ∧ (s.dispatch kind sender payload).supply = s.supply
      ∧ (s.dispatch kind sender payload).standstill = s.standstill
      ∧ (s.dispatch kind sender payload).startup = s.startup ∧ (s.dispatch kind sender payload).service = s.service
      ∧ (s.dispatch kind sender payload).pending = s.pending :=
  by unfold State.dispatch; (repeat' split) <;> simp

@[simp] theorem State.takeRequest_frame (s : State) (kind : Byte) (r : ServiceReq) :
    (s.takeRequest kind r).now = s.now ∧ (s.takeRequest kind r).freeIndex = s.freeIndex
      ∧ (s.takeRequest kind r).speed = s.speed ∧ (s.takeRequest kind r).pressure = s.pressure
      ∧ (s.takeRequest kind r).view = s.view ∧ (s.takeRequest kind r).slip = s.slip
      ∧ (s.takeRequest kind r).driver = s.driver ∧ (s.takeRequest kind r).composer = s.composer
      ∧ (s.takeRequest kind r).fault = s.fault ∧ (s.takeRequest kind r).supply = s.supply
      ∧ (s.takeRequest kind r).standstill = s.standstill ∧ (s.takeRequest kind r).startup = s.startup
      ∧ (s.takeRequest kind r).pending = s.pending :=
  by unfold State.takeRequest; (repeat' split) <;> simp

@[simp] theorem State.takeAlert_frame (s : State) (sender : Fin 8) (payload : List Byte) :
    (s.takeAlert sender payload).now = s.now ∧ (s.takeAlert sender payload).freeIndex = s.freeIndex
      ∧ (s.takeAlert sender payload).speed = s.speed ∧ (s.takeAlert sender payload).pressure = s.pressure
      ∧ (s.takeAlert sender payload).slip = s.slip ∧ (s.takeAlert sender payload).driver = s.driver
      ∧ (s.takeAlert sender payload).composer = s.composer ∧ (s.takeAlert sender payload).fault = s.fault
      ∧ (s.takeAlert sender payload).supply = s.supply ∧ (s.takeAlert sender payload).standstill = s.standstill
      ∧ (s.takeAlert sender payload).startup = s.startup ∧ (s.takeAlert sender payload).service = s.service
      ∧ (s.takeAlert sender payload).pending = s.pending :=
  by unfold State.takeAlert; (repeat' split) <;> simp

@[simp] theorem State.takeStatus_frame (s : State) (sender : Fin 8) (payload : List Byte) :
    (s.takeStatus sender payload).now = s.now ∧ (s.takeStatus sender payload).freeIndex = s.freeIndex
      ∧ (s.takeStatus sender payload).speed = s.speed ∧ (s.takeStatus sender payload).pressure = s.pressure
      ∧ (s.takeStatus sender payload).slip = s.slip ∧ (s.takeStatus sender payload).driver = s.driver
      ∧ (s.takeStatus sender payload).composer = s.composer ∧ (s.takeStatus sender payload).fault = s.fault
      ∧ (s.takeStatus sender payload).supply = s.supply ∧ (s.takeStatus sender payload).standstill = s.standstill
      ∧ (s.takeStatus sender payload).startup = s.startup ∧ (s.takeStatus sender payload).service = s.service
      ∧ (s.takeStatus sender payload).pending = s.pending :=
  by unfold State.takeStatus; (repeat' split) <;> simp

@[simp] theorem State.channelFault_frame (s : State) (cause : ChannelCause) (c : Channel) :
    (s.channelFault cause c).now = s.now ∧ (s.channelFault cause c).freeIndex = s.freeIndex
      ∧ (s.channelFault cause c).speed = s.speed ∧ (s.channelFault cause c).pressure = s.pressure
      ∧ (s.channelFault cause c).view = s.view ∧ (s.channelFault cause c).driver = s.driver
      ∧ (s.channelFault cause c).link = s.link ∧ (s.channelFault cause c).composer = s.composer
      ∧ (s.channelFault cause c).supply = s.supply ∧ (s.channelFault cause c).startup = s.startup
      ∧ (s.channelFault cause c).service = s.service ∧ (s.channelFault cause c).pending = s.pending :=
  by unfold State.channelFault; (repeat' split) <;> simp

@[simp] theorem State.judgeFrame_frame (s : State) (f : ReadFrame) :
    (s.judgeFrame f).now = s.now ∧ (s.judgeFrame f).freeIndex = s.freeIndex ∧ (s.judgeFrame f).speed = s.speed
      ∧ (s.judgeFrame f).pressure = s.pressure ∧ (s.judgeFrame f).view = s.view ∧ (s.judgeFrame f).slip = s.slip
      ∧ (s.judgeFrame f).driver = s.driver ∧ (s.judgeFrame f).composer = s.composer
      ∧ (s.judgeFrame f).fault = s.fault ∧ (s.judgeFrame f).supply = s.supply
      ∧ (s.judgeFrame f).standstill = s.standstill ∧ (s.judgeFrame f).startup = s.startup
      ∧ (s.judgeFrame f).service = s.service ∧ (s.judgeFrame f).pending = s.pending :=
  by unfold State.judgeFrame; (repeat' split) <;> simp

@[simp] theorem State.driveSample_frame (s : State) (c : Channel) (pc : Nat) (sensor : SensorState) (pd : Nat) :
    (s.driveSample c pc sensor pd).now = s.now ∧ (s.driveSample c pc sensor pd).freeIndex = s.freeIndex
      ∧ (s.driveSample c pc sensor pd).speed = s.speed ∧ (s.driveSample c pc sensor pd).pressure = s.pressure
      ∧ (s.driveSample c pc sensor pd).view = s.view ∧ (s.driveSample c pc sensor pd).slip = s.slip
      ∧ (s.driveSample c pc sensor pd).link = s.link ∧ (s.driveSample c pc sensor pd).composer = s.composer
      ∧ (s.driveSample c pc sensor pd).fault = s.fault ∧ (s.driveSample c pc sensor pd).supply = s.supply
      ∧ (s.driveSample c pc sensor pd).standstill = s.standstill
      ∧ (s.driveSample c pc sensor pd).startup = s.startup ∧ (s.driveSample c pc sensor pd).service = s.service
      ∧ (s.driveSample c pc sensor pd).pending = s.pending :=
  by unfold State.driveSample; dsimp only; (repeat' split) <;> simp

@[simp] theorem State.channelLadder_frame (s : State) (cause : ChannelCause) (c : Channel) :
    (s.channelLadder cause c).now = s.now ∧ (s.channelLadder cause c).freeIndex = s.freeIndex
      ∧ (s.channelLadder cause c).speed = s.speed ∧ (s.channelLadder cause c).pressure = s.pressure
      ∧ (s.channelLadder cause c).view = s.view ∧ (s.channelLadder cause c).driver = s.driver
      ∧ (s.channelLadder cause c).link = s.link ∧ (s.channelLadder cause c).composer = s.composer
      ∧ (s.channelLadder cause c).supply = s.supply ∧ (s.channelLadder cause c).startup = s.startup
      ∧ (s.channelLadder cause c).service = s.service ∧ (s.channelLadder cause c).pending = s.pending :=
  by unfold State.channelLadder; (repeat' split) <;> simp

@[simp] theorem State.takeFrame_frame (s : State) (bits : List Bit) :
    (s.takeFrame bits).now = s.now ∧ (s.takeFrame bits).freeIndex = s.freeIndex
      ∧ (s.takeFrame bits).speed = s.speed ∧ (s.takeFrame bits).pressure = s.pressure
      ∧ (s.takeFrame bits).view = s.view ∧ (s.takeFrame bits).slip = s.slip ∧ (s.takeFrame bits).driver = s.driver
      ∧ (s.takeFrame bits).composer = s.composer ∧ (s.takeFrame bits).fault = s.fault
      ∧ (s.takeFrame bits).supply = s.supply ∧ (s.takeFrame bits).standstill = s.standstill
      ∧ (s.takeFrame bits).startup = s.startup ∧ (s.takeFrame bits).service = s.service
      ∧ (s.takeFrame bits).pending = s.pending :=
  by unfold State.takeFrame; (repeat' split) <;> simp

@[simp] theorem State.ladder_frame (s : State) (n : Notice) :
    (s.ladder n).now = s.now ∧ (s.ladder n).freeIndex = s.freeIndex ∧ (s.ladder n).speed = s.speed
      ∧ (s.ladder n).pressure = s.pressure ∧ (s.ladder n).view = s.view ∧ (s.ladder n).driver = s.driver
      ∧ (s.ladder n).link = s.link ∧ (s.ladder n).composer = s.composer ∧ (s.ladder n).supply = s.supply
      ∧ (s.ladder n).startup = s.startup ∧ (s.ladder n).service = s.service ∧ (s.ladder n).pending = s.pending :=
  by unfold State.ladder; (repeat' split) <;> simp

@[simp] theorem State.takeNotice_frame (s : State) (n : Notice) :
    (s.takeNotice n).now = s.now ∧ (s.takeNotice n).freeIndex = s.freeIndex ∧ (s.takeNotice n).speed = s.speed
      ∧ (s.takeNotice n).pressure = s.pressure ∧ (s.takeNotice n).view = s.view
      ∧ (s.takeNotice n).driver = s.driver ∧ (s.takeNotice n).link = s.link
      ∧ (s.takeNotice n).composer = s.composer ∧ (s.takeNotice n).supply = s.supply
      ∧ (s.takeNotice n).startup = s.startup ∧ (s.takeNotice n).service = s.service
      ∧ (s.takeNotice n).pending = s.pending :=
  by simp [State.takeNotice]

@[simp] theorem State.takeCopy_frame (s : State) (c : Instr) :
    (s.takeCopy c).now = s.now ∧ (s.takeCopy c).freeIndex = s.freeIndex ∧ (s.takeCopy c).speed = s.speed
      ∧ (s.takeCopy c).pressure = s.pressure ∧ (s.takeCopy c).slip = s.slip ∧ (s.takeCopy c).driver = s.driver
      ∧ (s.takeCopy c).link = s.link ∧ (s.takeCopy c).composer = s.composer ∧ (s.takeCopy c).fault = s.fault
      ∧ (s.takeCopy c).supply = s.supply ∧ (s.takeCopy c).standstill = s.standstill
      ∧ (s.takeCopy c).startup = s.startup ∧ (s.takeCopy c).service = s.service ∧ (s.takeCopy c).pending = s.pending :=
  by unfold State.takeCopy; split <;> simp

/-- Taking handed events keeps a property that taking each of them keeps. -/
theorem foldl_takeCopy {P : State → Prop} (h : ∀ s c, P s → P (s.takeCopy c)) (cs : List Instr) :
    ∀ s, P s → P (cs.foldl State.takeCopy s) := by
  induction cs with
  | nil => exact fun _ hs => hs
  | cons c cs ih => exact fun s hs => ih _ (h s c hs)

@[simp] theorem State.takeCopies_frame (s : State) :
    (s.takeCopies).now = s.now ∧ (s.takeCopies).freeIndex = s.freeIndex ∧ (s.takeCopies).speed = s.speed
      ∧ (s.takeCopies).pressure = s.pressure ∧ (s.takeCopies).slip = s.slip ∧ (s.takeCopies).driver = s.driver
      ∧ (s.takeCopies).link = s.link ∧ (s.takeCopies).composer = s.composer ∧ (s.takeCopies).fault = s.fault
      ∧ (s.takeCopies).supply = s.supply ∧ (s.takeCopies).standstill = s.standstill
      ∧ (s.takeCopies).startup = s.startup ∧ (s.takeCopies).service = s.service ∧ (s.takeCopies).pending = s.pending := by
  unfold State.takeCopies
  generalize s.handed = cs
  induction cs generalizing s with
  | nil => simp
  | cons c cs ih => simpa using ih (s.takeCopy c)

@[simp] theorem State.raiseConfigBad_frame (s : State) :
    (s.raiseConfigBad).now = s.now ∧ (s.raiseConfigBad).freeIndex = s.freeIndex
      ∧ (s.raiseConfigBad).speed = s.speed ∧ (s.raiseConfigBad).pressure = s.pressure
      ∧ (s.raiseConfigBad).driver = s.driver ∧ (s.raiseConfigBad).link = s.link
      ∧ (s.raiseConfigBad).composer = s.composer ∧ (s.raiseConfigBad).supply = s.supply
      ∧ (s.raiseConfigBad).startup = s.startup ∧ (s.raiseConfigBad).service = s.service
      ∧ (s.raiseConfigBad).pending = s.pending :=
  by unfold State.raiseConfigBad; (repeat' split) <;> simp

@[simp] theorem State.endListen_frame (s : State) (t : Time) :
    (s.endListen t).now = s.now ∧ (s.endListen t).freeIndex = s.freeIndex ∧ (s.endListen t).speed = s.speed
      ∧ (s.endListen t).pressure = s.pressure ∧ (s.endListen t).driver = s.driver
      ∧ (s.endListen t).supply = s.supply ∧ (s.endListen t).service = s.service
      ∧ (s.endListen t).pending = s.pending :=
  by unfold State.endListen; (repeat' split) <;> simp

end Sys2Proof.Machine
end

