-- ==== Sys2Proof/Laws/State.lean ====
section
/-! SUPPORT. What each plain update of the state writes, and how the values of sides, channels and positions are read
back. -/

namespace Sys2Proof.Machine

/-! ## Sides, channels and positions -/

@[simp] theorem sideGet_sideSet {α : Type} (x : Sides α) (i : Side) (a : α) : sideGet (sideSet x i a) i = a := by
  cases i <;> rfl

theorem sideGet_sideSet_of_ne {α : Type} (x : Sides α) {i j : Side} (a : α) (h : j ≠ i) :
    sideGet (sideSet x i a) j = sideGet x j := by
  cases i <;> cases j <;> first | rfl | exact absurd rfl h

@[simp] theorem chanGet_chanSet {α : Type} (x : Chans α) (c : Channel) (a : α) : chanGet (chanSet x c a) c = a := by
  cases c <;> rfl

theorem chanGet_chanSet_of_ne {α : Type} (x : Chans α) {c d : Channel} (a : α) (h : d ≠ c) :
    chanGet (chanSet x c a) d = chanGet x d := by
  cases c <;> cases d <;> first | rfl | exact absurd rfl h

@[simp] theorem chanSet_chanGet {α : Type} (x : Chans α) (c : Channel) : chanSet x c (chanGet x c) = x := by
  cases c <;> rfl

theorem quad_cases (p : Position) : p = 0 ∨ p = 1 ∨ p = 2 ∨ p = 3 := by revert p; decide

@[simp] theorem quadGet_quadSet {α : Type} (x : Quad α) (p : Position) (a : α) : quadGet (quadSet x p a) p = a := by
  rcases quad_cases p with rfl | rfl | rfl | rfl <;> rfl

theorem quadGet_quadSet_of_ne {α : Type} (x : Quad α) {p q : Position} (a : α) (h : q ≠ p) :
    quadGet (quadSet x p a) q = quadGet x q := by
  rcases quad_cases p with rfl | rfl | rfl | rfl <;> rcases quad_cases q with rfl | rfl | rfl | rfl <;>
    first | rfl | exact absurd rfl h

/-! ## What each update writes -/

@[simp] theorem State.stamp_now (s : State) (t : Time) : (s.stamp t).now = t := rfl
@[simp] theorem State.hand_handed (s : State) (cs : List Instr) : (s.hand cs).handed = s.handed ++ cs := rfl
@[simp] theorem State.take_handed (s : State) (c : Instr) : (s.take c).handed = s.handed.erase c := rfl
@[simp] theorem State.setStats_link (s : State) (x : LinkStats) : (s.setStats x).link = { s.link with stats := x } := rfl
@[simp] theorem State.setChannel_slip (s : State) (c : Channel) (r : ChannelRec) :
    (s.setChannel c r).slip = chanSet s.slip c r := rfl
@[simp] theorem State.setDriverChan_driver (s : State) (c : Channel) (d : DriverChan) :
    (s.setDriverChan c d).driver = { s.driver with chans := chanSet s.driver.chans c d } := rfl
@[simp] theorem State.setPeer_view (s : State) (p : Position) (e : PeerEntry) :
    (s.setPeer p e).view = { s.view with peers := quadSet s.view.peers p e } := rfl
@[simp] theorem State.setLine_link (s : State) (x : LineState) : (s.setLine x).link = { s.link with line := x } := rfl
@[simp] theorem State.putReply_link (s : State) (r : Reply) :
    (s.putReply r).link = { s.link with reply := slotPut s.link.reply r } := rfl
@[simp] theorem State.setHeld_fault (s : State) (x : HeldSet) : (s.setHeld x).fault = { s.fault with held := x } := rfl
@[simp] theorem State.seeCause_fault (s : State) (c : Cause) :
    (s.seeCause c).fault = { s.fault with seen := s.fault.seen ||| causeBit c } := rfl
@[simp] theorem State.setSupplyEvent_fault (s : State) :
    s.setSupplyEvent.fault = { s.fault with supplyEvent := true } := rfl
@[simp] theorem State.clearMemory_fault (s : State) :
    s.clearMemory.fault = { s.fault with record := none, seen := 0, supplyEvent := false } := rfl
@[simp] theorem State.refuseQuiet_standstill (s : State) : s.refuseQuiet.standstill = none := rfl
@[simp] theorem State.countSent_composer (s : State) :
    s.countSent.composer = { s.composer with sent := s.composer.sent + 1 } := rfl
@[simp] theorem State.endGroup_composer (s : State) : s.endGroup.composer = { s.composer with group := [] } := rfl
@[simp] theorem State.endTest_service (s : State) :
    s.endTest.service = { s.service with test := .none, stepTimer := none } := rfl
@[simp] theorem State.beginSending_link (s : State) :
    s.beginSending.link = { s.link with line := .frame, ownSending := true } := rfl
@[simp] theorem State.enableTransmitter_link (s : State) :
    s.enableTransmitter.link = { s.link with tx := .enabled } := rfl

/-! ## What is read off other state -/

theorem State.unitsOn_eq {s t : State} (h : t.startup = s.startup) : t.unitsOn = s.unitsOn := by
  simp only [State.unitsOn, h]

theorem State.begun_eq {s t : State} (h : t.startup = s.startup) : t.begun = s.begun := by
  simp only [State.begun, h]

theorem State.params_eq {s t : State} (h : t.startup = s.startup) : t.params = s.params := by
  simp only [State.params, h]

theorem State.position_eq {s t : State} (h : t.startup = s.startup) : t.position = s.position := by
  simp only [State.position, h]

theorem State.arrangement_eq {s t : State} (h : t.startup = s.startup) : t.arrangement = s.arrangement := by
  simp only [State.arrangement, h]

theorem State.live_eq {s t : State} (h : t.startup = s.startup) (c : Channel) : t.live c = s.live c := by
  simp only [State.live, State.arrangement_eq h]

theorem State.driverChan_eq {s t : State} (h : t.driver = s.driver) (c : Channel) : t.driverChan c = s.driverChan c := by
  simp only [State.driverChan, h]

end Sys2Proof.Machine
end

