-- ==== Sys2Proof/Laws/Ops.lean ====
section
/-! SUPPORT. One lemma for each shared operation, which says all it can do. -/

namespace Sys2Proof.Machine

/-! ## Timers and runs -/

/-- A timer is due exactly when it runs and its period has passed. -/
theorem timerDue_iff (tm : Option Timer) (t : Time) :
    timerDue tm t = true ↔ ∃ x, tm = some x ∧ x.period ≤ elapsed t x.setAt := by
  cases tm <;> simp [timerDue]

/-- A run is old exactly when it is present and its age has reached the limit. -/
theorem aged_iff (r : Option Time) (t : Time) (n : Nat) :
    aged r t n = true ↔ ∃ t0, r = some t0 ∧ n ≤ elapsed t t0 := by
  cases r <;> simp [aged]

/-- A run is absent when its condition fails, keeps its start while it holds, and begins when it first holds. -/
theorem runWhile_cases (cond : Bool) (run : Option Time) (t : Time) :
    (cond = false ∧ runWhile cond run t = none) ∨ (cond = true ∧ run = none ∧ runWhile cond run t = some t)
      ∨ ∃ t0, cond = true ∧ run = some t0 ∧ runWhile cond run t = some t0 := by
  cases cond <;> cases run <;> simp [runWhile]

/-- A statistic never exceeds 65535 (R129). -/
theorem saturate16_le (a n : Nat) : saturate16 a n ≤ 65535 := Nat.min_le_left _ _

/-! ## Forcing and mode changes -/

/-- A forcing leaves a PASSIVE channel as it is, and makes any other PASSIVE and hands the change on (R88). -/
theorem State.force_cases (s : State) (c : Channel) :
    ((chanGet s.slip c).phase = .passive ∧ s.force c = s) ∨
      ((chanGet s.slip c).phase ≠ .passive ∧ (s.force c).slip = chanSet s.slip c (forcedRecord (chanGet s.slip c))
        ∧ (s.force c).handed = s.handed ++ phaseHandoffs c (forcedRecord (chanGet s.slip c))) := by
  by_cases h : (chanGet s.slip c).phase = .passive
  · exact .inl ⟨h, by simp [State.force, h]⟩
  · exact .inr ⟨h, by simp [State.force, h], by simp [State.force, h]⟩

/-- After a forcing the channel is PASSIVE (R88). -/
theorem State.force_phase (s : State) (c : Channel) : (chanGet (s.force c).slip c).phase = .passive := by
  rcases s.force_cases c with ⟨h, e⟩ | ⟨_, e, _⟩
  · rw [e]; exact h
  · rw [e]; simp [forcedRecord]

/-- A forcing keeps a PASSIVE channel PASSIVE, the forced one or the other. -/
theorem State.force_keeps_passive (s : State) (c d : Channel) (h : (chanGet s.slip d).phase = .passive) :
    (chanGet (s.force c).slip d).phase = .passive := by
  rcases s.force_cases c with ⟨_, e⟩ | ⟨_, e, _⟩
  · rw [e]; exact h
  · rw [e]
    by_cases hd : d = c
    · subst hd; simp [forcedRecord]
    · rw [chanGet_chanSet_of_ne _ _ hd]; exact h

/-- After every channel is forced, every channel is PASSIVE (R154). -/
theorem State.forceAll_phase (s : State) (c : Channel) : (chanGet s.forceAll.slip c).phase = .passive := by
  cases c
  · exact State.force_keeps_passive _ _ _ (s.force_phase .ch1)
  · exact (s.force .ch1).force_phase .ch2

/-- A mode change settles the mode and touches nothing else of the fault unit (R147). -/
@[simp] theorem State.setMode_fault (s : State) (m : Mode) : (s.setMode m).fault = { s.fault with mode := m } := by
  unfold State.setMode
  split
  · next h => rw [← h]
  · rfl

/-- A mode change to the mode that stands is none; any other is handed on and ends a standstill run kept in ACTIVE (R147,
R174). -/
theorem State.setMode_cases (s : State) (m : Mode) :
    (s.fault.mode = m ∧ s.setMode m = s) ∨
      (s.fault.mode ≠ m ∧ (s.setMode m).handed = s.handed ++ modeHandoffs s.fault.mode m s.testRunning
        ∧ (s.setMode m).standstill = if s.fault.mode = .active then none else s.standstill) := by
  by_cases h : s.fault.mode = m
  · exact .inl ⟨h, by simp [State.setMode, h]⟩
  · exact .inr ⟨h, by simp [State.setMode, h], by simp [State.setMode, h]⟩

/-- Giving up settles the mode and touches nothing else of the fault unit. -/
@[simp] theorem State.giveUp_fault (s : State) (m : Mode) : (s.giveUp m).fault = { s.fault with mode := m } := by
  unfold State.giveUp
  dsimp only
  split <;> simp

/-- After giving up every channel is PASSIVE (R154). -/
theorem State.giveUp_phase (s : State) (m : Mode) (c : Channel) : (chanGet (s.giveUp m).slip c).phase = .passive := by
  unfold State.giveUp
  dsimp only
  split
  · simpa using State.forceAll_phase (s.setMode m) c
  · exact State.forceAll_phase (s.setMode m) c

/-! ## Hand-offs in their order -/

/-- A hand-off whose order no rule fixes is always in turn. -/
theorem State.inTurn_of_free (s : State) (c : Instr) (h : handOffOrder c = none) : s.inTurn c = true := by
  simp only [State.inTurn, h]

/-- A hand-off is in turn exactly when the oldest of its order that stands untaken, if there is one, is the hand-off
itself (R86, R147, R155). -/
theorem State.inTurn_iff (s : State) (c : Instr) (k : HandOffOrder) (h : handOffOrder c = some k) :
    s.inTurn c = true ↔ ∀ d, s.handed.find? (fun x => decide (handOffOrder x = some k)) = some d → d = c := by
  simp only [State.inTurn, h]
  cases s.handed.find? (fun x => decide (handOffOrder x = some k)) <;> simp

/-- Taken in turn, a hand-off leaves the list and has its effect; out of turn it changes nothing. -/
theorem State.takeInTurn_cases (s : State) (c : Instr) (f : State → State) :
    (s.inTurn c = true ∧ s.takeInTurn c f = f (s.take c)) ∨ (s.inTurn c = false ∧ s.takeInTurn c f = s) := by
  cases h : s.inTurn c <;> simp [State.takeInTurn, h]

/-! ## The line -/

/-- A line that becomes IDLE does so now and ends a wait for the next idle; any other settling sets the line alone (R113,
R126). -/
theorem State.settleLine_link (s : State) (x : LineState) :
    (s.settleLine x).link = if x = .idle ∧ s.link.line ≠ .idle
      then { s.link with line := x, idleSince := some s.now, awaitIdle := false } else { s.link with line := x } := by
  unfold State.settleLine
  split <;> rfl

/-! ## Requests -/

/-- A request's frame before the listen expiry changes nothing; after it, 3 bytes are handed on as the command they name and
any other length adds to the receive-error count (R128, R185, R198). -/
theorem State.dispatchRequest_cases (s : State) (payload : List Byte) :
    (s.responderOn = false ∧ s.dispatchRequest payload = s)
    ∨ (s.responderOn = true ∧ payload.length = 3 ∧ s.dispatchRequest payload = s.hand
        [requestCommand (byteAt payload 1) { length := 3, byte0 := byteAt payload 0, arg := byteAt payload 2 }])
    ∨ (s.responderOn = true ∧ payload.length ≠ 3 ∧ s.dispatchRequest payload = s.addReceiveError) := by
  cases h : s.responderOn <;> by_cases hp : payload.length = 3 <;> simp [State.dispatchRequest, h, hp]

/-- What a READ_RECORD shows: the fault memory, and the emptied one while a clearing is outstanding (R191, R192). -/
theorem State.shownMemory_cases (s : State) :
    (Instr.serviceClear ∉ s.handed ∧ s.shownMemory = s.fault)
    ∨ (Instr.serviceClear ∈ s.handed ∧ s.shownMemory = emptyMemory s.fault) := by
  by_cases h : Instr.serviceClear ∈ s.handed <;> simp [State.shownMemory, h]

/-! ## Transmit slots -/

/-- A slot whose frame left the line without success has nothing in flight; a waiting frame stays, and with none waiting
the body waits again (R117). -/
theorem slotReturn_cases {α : Type} (x : Slot α) :
    (slotReturn x).inFlight = none ∧
      (slotReturn x).waiting = match x.waiting, x.inFlight with
        | some w, _ => some w
        | none, some f => some f.body
        | none, none => none := by
  obtain ⟨f, w⟩ := x
  cases f <;> cases w <;> exact ⟨rfl, rfl⟩

/-! ## Drives -/

/-- Setting a drive sets the drive and keeps the short lock and the open count and mark (R107). -/
@[simp] theorem driveSolenoid_spec (t : Time) (on : Bool) (x : Solenoid) :
    (driveSolenoid t on x).on = on ∧ (driveSolenoid t on x).shortLock = x.shortLock
      ∧ (driveSolenoid t on x).openCount = x.openCount ∧ (driveSolenoid t on x).openMark = x.openMark := by
  unfold driveSolenoid
  split
  · next h => exact ⟨h, rfl, rfl, rfl⟩
  · exact ⟨rfl, rfl, rfl, rfl⟩

/-- A short-locked solenoid whose timer is stopped keeps it stopped when its drive is set (R106, R107). -/
theorem driveSolenoid_timer (t : Time) (on : Bool) (x : Solenoid) (h : x.shortLock = true → x.timer = none) :
    (driveSolenoid t on x).shortLock = true → (driveSolenoid t on x).timer = none := by
  intro hs
  rw [(driveSolenoid_spec t on x).2.1] at hs
  unfold driveSolenoid
  split
  · exact h hs
  · simp

end Sys2Proof.Machine
end

