-- ==== Sys2Proof/Tests/Slice0.lean ====
section
/-! SUPPORT. The tests: the well-formedness smoke, the manual's tables and worked sequences, one or two steps of each
command, and for each statement a state that meets its hypotheses. -/

namespace Sys2Proof.Tests

open Sys2Proof Sys2Proof.Machine

/-! ## Helpers -/

/-- A channel record with a phase. -/
def phased (p : Phase) : ChannelRec := { ChannelRec.reset with phase := p }

/-- Station 0 of the manual's examples: SPLIT, 24 V, default parameters, ACTIVE, the line IDLE, every periodic timer set
at module time 0. -/
def base : State :=
  { State.reset with
    startup := { StartUp.reset with
      stage := .done, position := some 0, arrangement := some .split, nominal := some .v24,
      params := some defaultParams, constants := some ⟨9043200, 9043200⟩ }
    fault := { FaultUnit.reset with mode := .active, milliTimer := some ⟨0, 1000⟩ }
    driver := { Driver.reset with mode := .active }
    link := { Link.reset with line := .idle, tx := .enabled }
    composer := { Composer.reset with timer := some ⟨0, 10000⟩ }
    speed := { SpeedUnit.reset with window := some ⟨0, 5000⟩ }
    pressure := { PressureUnit.reset with timer := some ⟨0, 1000⟩ }
    supply := { Supply.reset with timer := some ⟨0, 1000⟩ } }

/-- A station in a mode. -/
def inMode (m : Mode) (s : State) : State :=
  { s with fault := { s.fault with mode := m }, driver := { s.driver with mode := m } }

/-- A station whose channels stand in two phases. -/
def inPhases (a b : ChannelRec) (s : State) : State := { s with slip := ⟨a, b⟩ }

/-- A station with channel 1 of its driver replaced. -/
def inDriver (d : DriverChan) (s : State) : State := s.setDriverChan .ch1 d

/-- A braking station with a demand and a chamber pressure. -/
def braked (pd pc : Nat) (s : State) : State :=
  { s with pressure := { s.pressure with
      braking := true, pd := pd, chambers := ⟨{ Sensor.reset with reading := pc }, { Sensor.reset with reading := pc }⟩ } }

/-- A station with an entry of the peer table. -/
def withPeer (p : Position) (e : PeerEntry) (s : State) : State :=
  { s with view := { s.view with peers := quadSet s.view.peers p e } }

/-- A station in a stage of its start. -/
def inStage (x : Stage) (s : State) : State := { s with startup := { s.startup with stage := x } }

/-- A station of another arrangement. -/
def joined (s : State) : State := { s with startup := { s.startup with arrangement := some .joined } }

/-- A station with input L replaced. -/
def inputL (i : SpeedInput) (s : State) : State :=
  { s with speed := { s.speed with inputs := ⟨i, s.speed.inputs.right⟩ } }

/-- The state after a command. -/
def after (c : Instr) (s : State) : State :=
  match exec c s with
  | .next t => t
  | _ => s

/-- Two good wires. -/
def goodWires : Sides WireReport := ⟨.good, .good⟩

/-- The input of the wet-setts sequence before n1 (01, section 1.11). -/
def lockingInput : SpeedInput :=
  { SpeedInput.reset with
    state := .running, speed := 2030, history := ⟨2210, 2150, 2090, 2030⟩, refEdge := some 1000, edges := 3,
    lastEdge := some 13180 }

/-- Reference update of one LEFT sample; the RIGHT wheel rolls with vref. -/
def updateL (vref speed : Nat) (accel : Int) : RefUpdate :=
  ⟨vref, ⟨⟨.running, speed, accel, false⟩, ⟨.running, vref, 0, false⟩⟩, 0⟩

/-- The same code on all four inputs. -/
def codes (c : BitVec 12) : PressureCodes := ⟨c, c, c, c⟩

/-! ## Well-formedness and decoding -/

theorem test_wf_block_length : (Instr.readCompletion 0 []).wf = false := by decide
theorem test_wf_speed_range : (Instr.samplePair ⟨⟨.running, 16384, 0, false⟩, ⟨.running, 0, 0, false⟩⟩).wf = false := by
  decide
theorem test_wf_accel_range : (Instr.samplePair ⟨⟨.running, 0, 16384, false⟩, ⟨.running, 0, 0, false⟩⟩).wf = false := by
  decide
theorem test_wf_accel_low : (Instr.samplePair ⟨⟨.running, 0, -16384, false⟩, ⟨.running, 0, 0, false⟩⟩).wf = false := by
  decide
theorem test_wf_still_speed : (Instr.samplePair ⟨⟨.failed, 1, 0, false⟩, ⟨.running, 0, 0, false⟩⟩).wf = false := by decide
theorem test_wf_right_sample : (Instr.samplePair ⟨⟨.failed, 0, 0, false⟩, ⟨.starting, 1, 0, false⟩⟩).wf = false := by
  decide
theorem test_wf_payload : (Instr.statusReceived 1 (List.replicate 15 0#8)).wf = false
    ∧ (Instr.alertReceived 1 (List.replicate 15 0#8)).wf = false := by decide
theorem test_wf_vref : (Instr.referenceUpdate (updateL 16384 0 0)).wf = false
    ∧ (Instr.referenceUpdate (updateL 0 16384 0)).wf = false := by decide
theorem test_wf_cap : (Instr.phaseHandoff .ch1 .capped 16001).wf = false ∧ (Instr.capStepHandoff .ch1 16001).wf = false := by
  decide
theorem test_wf_chamber : (Instr.chamberSample .ch1 15001 .good 0).wf = false
    ∧ (Instr.chamberSample .ch1 0 .good 15001).wf = false := by decide
theorem test_wf_frame_start : (Instr.receiveFrame 0 (List.replicate 36 true)).wf = false := by decide
theorem test_wf_frame_length : (Instr.receiveFrame 0 (List.replicate 35 false)).wf = false
    ∧ (Instr.receiveFrame 0 (false :: List.replicate 13 true)).wf = false := by decide
theorem test_wf_lane_alert : (Instr.alertHanded .lockOnset none 0).wf = false
    ∧ (Instr.alertHanded .cycleEnd none 0).wf = false ∧ (Instr.alertHanded .channelPassive none 1).wf = false := by decide
theorem test_wf_alert_value : (Instr.alertHanded .lockOnset (some .ch1) 15001).wf = false
    ∧ (Instr.alertHanded .cycleEnd (some .ch1) 256).wf = false
    ∧ (Instr.alertHanded .channelPassive (some .ch1) 256).wf = false := by decide
theorem test_wf_module_alert : (Instr.alertHanded .moduleHeld (some .ch1) 9).wf = false
    ∧ (Instr.alertHanded .moduleHeld none 256).wf = false := by decide
theorem test_wf_wake : (Instr.wakeEvent (.reference 16384)).wf = false
    ∧ (Instr.wakeEvent (.acceptance .active 16384)).wf = false := by decide
theorem test_wf_abort : (Instr.abortEvent (.modeChange .active)).wf = false := by decide
theorem test_wf_request : (Instr.readRecord ⟨15, 0, 0⟩).wf = false ∧ (Instr.readStats ⟨15, 0, 0⟩).wf = false
    ∧ (Instr.clear ⟨15, 0, 0⟩).wf = false ∧ (Instr.restart ⟨15, 0, 0⟩).wf = false
    ∧ (Instr.valveTest ⟨15, 0, 0⟩).wf = false ∧ (Instr.badRequest 9 ⟨15, 0, 0⟩).wf = false := by decide
/-- The table gives no row any bits. -/
theorem test_no_word_spells_a_command : decodeTableWord 8 0 = none ∧ decodeTableWord 0 0 = none := by decide
theorem test_front_of_queue : step { base with pending := [.toothEdge 9 .left, .quietEntry] }
    = exec (.toothEdge 9 .left) { base with pending := [.quietEntry] } := by rfl
theorem test_empty_queue_idles : step base = .next base := by rfl

/-! ## Tables of the manual -/

/-- R4's table of speed constants. -/
theorem test_speed_constants : speedConstant 2000 120 = 3840000 ∧ speedConstant 3140 80 = 9043200
    ∧ speedConstant 3140 90 = 8038400 ∧ speedConstant 4000 40 = 23040000 := by decide
/-- R20's table. -/
theorem test_pressure_codes : convertCode 410 781 205 = 0 ∧ convertCode 410 781 475 = 198 ∧ convertCode 410 781 476 = 201
    ∧ convertCode 410 781 508 = 298 ∧ convertCode 410 781 1000 = 1799 ∧ convertCode 410 781 2048 = 4997
    ∧ convertCode 410 781 3891 = 10619 := by decide
/-- R69's table. -/
theorem test_slip_thresholds : slipThreshold defaultParams 512 = 128 ∧ slipThreshold defaultParams 1270 = 128
    ∧ releaseThreshold defaultParams 1271 true = 257 ∧ slipThreshold defaultParams 2240 = 227
    ∧ releaseThreshold defaultParams 16383 true = 1791 := by decide
/-- R80's table. -/
theorem test_first_caps : firstCap false false 4200 = 3150 ∧ firstCap false true 4200 = 3675 ∧ firstCap true false 3960 = 1980
    ∧ firstCap true true 1000 = 500 := by decide
/-- R120's table: 06, section 6.10, and the request and reply rows. -/
theorem test_contention_fields : contentionField 0 kindAlert 2 = 2#8 ∧ contentionField 1 kindStatus 1 = 73#8
    ∧ contentionField 2 kindStatus 0 = 136#8 ∧ contentionField 3 kindReply 3 = 251#8 := by decide
set_option maxRecDepth 20000 in
/-- R116 over the bytes "123456789": 29B1 hexadecimal, the known value of this generator and register start. -/
theorem test_check : crcBits (bytesBits [49, 50, 51, 52, 53, 54, 55, 56, 57]) = 0x29B1#16 := by decide
/-- 12, section 12.2, and 07, section 7.3: station 0's report, byte by byte. -/
theorem test_status_bytes : encodeStatus 7 {
      mode := .active, arrangement := .split, demand := some 50, reservoir := some 73,
      left := ⟨some 1891, -128, .release⟩, right := ⟨some 2230, -24, .capped⟩, economy := false, alone := false,
      trackingWarning := false, supplySag := false, coasting := false, maskLeft := true, maskRight := false, vref := 2234 }
    = [7, 47, 4, 34, 232, 118, 50, 45, 153, 128, 232, 50, 73] := by decide
/-- 12, section 12.3: LOCK_ONSET of channel 2, RIGHT, 39; MODULE_HELD 9. -/
theorem test_alert_bytes : encodeAlerts [⟨.lockOnset, some .ch2, .right, 39⟩, ⟨.moduleHeld, none, .none, 9⟩]
    = [1, 160, 39, 4, 0, 9] := by decide
/-- 12, section 12.4: the record of 08, section 8.10, with its causes 1 and 10, vref 2000. -/
theorem test_record_bytes : recordData { FaultUnit.reset with
      record := some ⟨.channel .speedWire, some .ch2, some .release, .active, 2716400, 2000, false⟩, seen := 513#16,
      supplyEvent := true } false = [144, 1, 136, 64, 0, 41, 114, 240, 7, 208, 2, 1] := by decide
theorem test_empty_record_bytes : recordData FaultUnit.reset true = [32, 0, 0, 240, 0, 0, 0, 0, 0, 0, 0, 0] := by decide

/-! ## Reset, supply and start -/

theorem test_power_on : (after .powerOnReset base).fault.mode = .starting ∧ (after .powerOnReset base).link.tx = .listen := by
  decide
theorem test_low_voltage : (after (.brownOutNotice 9) base).supply.state = .sag
    ∧ (after (.brownOutNotice 9) base).supply.brownOut = some ⟨9, 1000⟩ := ⟨rfl, rfl⟩
theorem test_brown_out_restarts :
    (after (.brownOutExpiry 1000) { base with
      supply := { base.supply with brownOut := some ⟨0, 1000⟩ }
      fault := { base.fault with seen := 3 } }).fault = { FaultUnit.reset with seen := 3 } := by decide
theorem test_rise_ends_run : (after (.brownOutRise 999) { base with supply := { base.supply with
    brownOut := some ⟨0, 1000⟩ } }).supply.brownOut = none := by decide
/-- 09, section 9.3, at 1 and at 500 ms, with the 12 V thresholds. -/
theorem test_supply_enters_sag : (after (.supplySample 1000 990)
    { base with startup := { base.startup with nominal := some .v12 } }).supply.state = .sag := by decide
theorem test_supply_leaves_under : (after (.supplySample 500000 1062)
      { base with startup := { base.startup with nominal := some .v12 }, supply := { base.supply with
        state := .under, riseRun := some 300000, recoveryRun := some 450000 } }).handed
    = [.causeCleared .supplyUnder, .supplySagNotice, .sagEntry, .abortEvent .sagEntry] := by decide
theorem test_straps : (after (.startSequence ⟨true, true, true, false⟩) State.reset).startup.position = some 3
    ∧ (after (.startSequence ⟨true, true, true, false⟩) State.reset).startup.arrangement = some .joined
    ∧ (after (.startSequence ⟨true, true, true, false⟩) State.reset).startup.nominal = some .v12 := by decide
theorem test_bad_block : (after (.readCompletion 9 (List.replicate 64 0))
    (inStage .reading base)).startup.configBad = true := by decide
theorem test_listen_ends : (after (.listenExpiry 50000) { inMode .starting (inStage .listening base) with
      startup := { base.startup with stage := .listening, configBad := true, listenTimer := some ⟨0, 50000⟩ } }).fault.mode
    = .passive := by decide
/-- R51, R154 and R187: the first STATUS under the config-bad mark carries PASSIVE in both lanes. -/
theorem test_first_status_passive : (after (.listenExpiry 50000) { inMode .starting (inStage .listening base) with
      startup := { base.startup with stage := .listening, configBad := true, listenTimer := some ⟨0, 50000⟩ }
      }).link.status.waiting.map (fun r => (r.mode, r.left.code, r.right.code)) = some (.passive, .passive, .passive) := by
  decide
theorem test_starting_ends : (after (.startingExpiry 200000) { base with startup := { base.startup with
    stage := .reporting, startingTimer := some ⟨0, 200000⟩ } }).handed = [.endOfStarting] := by decide
theorem test_end_of_starting : (after .endOfStarting (inMode .starting base)).fault.mode = .active
    ∧ (after .endOfStarting (inMode .starting base)).view.missing = .running ⟨0, 1000000⟩ := by decide

/-! ## Speed unit: 01, section 1.11 -/

theorem test_edge_counts : (after (.toothEdge 7 .left) base).speed.inputs.left.state = .starting
    ∧ (after (.toothEdge 7 .left) base).speed.inputs.left.edges = 1 := by decide
/-- n1: 3 edges over 12,180 µs with K 8,038,400 measure 1980, and the accel is −230. -/
theorem test_window_measures :
    (after (.windowClose 15000 goodWires) (inputL lockingInput
      { base with startup := { base.startup with constants := some ⟨8038400, 8038400⟩ } })).speed.inputs.left
    = { lockingInput with
        speed := 1980, accel := -230, history := ⟨2150, 2090, 2030, 1980⟩, edges := 0, lastEdge := none,
        refEdge := some 13180 } := by decide
/-- n4: no edge and 5600 µs since the reference edge bound the speed to 1435. -/
theorem test_window_bounds :
    (after (.windowClose 15000 goodWires) (inputL { lockingInput with
        speed := 1891, edges := 0, lastEdge := none, refEdge := some 9400, history := ⟨2030, 1980, 1891, 1891⟩, jumps := 1 }
      { base with startup := { base.startup with constants := some ⟨8038400, 8038400⟩ } })).speed.inputs.left.speed
    = 1435 := by decide

/-! ## Pressure unit -/

theorem test_pressure_sample : (after (.pressureSample 1000 (codes 2048)) base).pressure.pd = 4997
    ∧ (after (.pressureSample 1000 (codes 2048)) base).pressure.braking = true := by decide
theorem test_fifth_out_of_band : (after (.pressureSample 1000 (codes 204)) { base with pressure := { base.pressure with
    demand := { Sensor.reset with outOfBand := 4 } } }).pressure.demand.state = .failed := by decide
theorem test_quiet_period : (after (.samplePeriodChange true) { base with now := 77 }).pressure.timer = some ⟨77, 50000⟩ := by
  decide

/-! ## View unit -/

theorem test_missing : (after (.missingTimerExpiry 1000000) { base with view := { base.view with
    missing := .running ⟨0, 1000000⟩ } }).view.alone = true := by decide
/-- 03, section 3.10, w5: the highest candidate 2222 is the lower bound 2230 − 8. -/
theorem test_vref_follows :
    (after (.samplePair ⟨⟨.running, 2222, 0, false⟩, ⟨.running, 2215, 0, false⟩⟩) { braked 5000 4200 base with
      view := { base.view with vref := 2230, firstWindow := false } }).view.vref = 2222 := by decide
/-- 03, section 3.11, u1 and u3: coasting, and the peer floor. -/
theorem test_vref_coasts :
    (after (.samplePair ⟨⟨.standstill, 0, 0, false⟩, ⟨.standstill, 0, 0, false⟩⟩)
      (withPeer 2 { PeerEntry.reset with state := .fresh, vref := 1650 } { base with
        view := { base.view with vref := 1484, firstWindow := false, coasting := 2 } })).view.vref = 1522 := by decide
/-- R37's table: from 250, sequence 2 is accepted with gap 7, and 123 is a duplicate. -/
theorem test_sequence_gap :
    (after (.statusReceived 1 [2, 32, 0, 0, 0, 0, 0, 0, 0, 0, 0, 255, 255])
      (withPeer 1 { PeerEntry.reset with state := .fresh, lastSeq := some 250 } base)).link.stats.gaps = 7 := by decide
theorem test_sequence_behind :
    (after (.statusReceived 1 [123, 32, 0, 0, 0, 0, 0, 0, 0, 0, 0, 255, 255])
      (withPeer 1 { PeerEntry.reset with state := .fresh, lastSeq := some 250 } base)).link.stats.duplicates = 1 := by decide
theorem test_alert_writes_lane : (quadGet (after (.alertReceived 1 [1, 160, 39])
    (withPeer 1 { PeerEntry.reset with state := .fresh, accepted := some 0 } base)).view.peers 1).lanes.right.code = .hold := by
  decide
theorem test_stale : (quadGet (after (.staleExpiry 30000 2) (withPeer 2
    { PeerEntry.reset with state := .fresh, accepted := some 0, mode := .active } base)).view.peers 2).state = .stale := by decide
theorem test_lost : (quadGet (after (.lostExpiry 100000 2) (withPeer 2
    { PeerEntry.reset with state := .stale, accepted := some 0, mode := .active } base)).view.peers 2).state = .lost := by decide
theorem test_copy_joined : ((quadGet (after (.lanePhaseCopy .ch1 .release) (joined base)).view.lanes 0).right.code) = .release
    ∧ ((quadGet (after (.lanePhaseCopy .ch2 .release) (joined base)).view.lanes 0).right.code) = .openLane := by decide
/-- R86: a later copy of the same channel is not taken before the earlier one, and stays handed. -/
theorem test_copy_waits_its_turn :
    after (.lanePhaseCopy .ch1 .release) { base with handed := [.lanePhaseCopy .ch1 .hold, .lanePhaseCopy .ch1 .release] }
    = { base with handed := [.lanePhaseCopy .ch1 .hold, .lanePhaseCopy .ch1 .release] } := by decide

/-! ## Slip controller: 04, section 4.11 -/

/-- w1: HOLD with the lock pressure 4200. -/
theorem test_lock_onset : (after (.referenceUpdate (updateL 2240 1980 (-230)))
    (inPhases (phased .follow) (phased .follow) (braked 5000 4200 base))).slip.ch1 = { phased .hold with pLock := 4200 } := by
  decide
/-- w17: REAPPLY at 3675. -/
theorem test_reapply_cap : (after (.referenceUpdate (updateL 2138 2075 15))
    (inPhases { phased .recover with pLock := 4200, strong := true } (phased .follow) (braked 5000 4200 base))).slip.ch1.cap
    = 3675 := by decide

/-! ## Driver: 05, section 5.9 -/

theorem test_release_exhausts : (after (.phaseHandoff .ch1 .release 0) base).driver.chans.ch1.outlet
    = { on := true, shortLock := false, openCount := 0, openMark := false, timer := some ⟨0, 2000⟩ } := by decide
theorem test_cap_step : (after (.capStepHandoff .ch1 3825) base).driver.chans.ch1.cap = 3825 := by decide
theorem test_held_passes : (after (.modeChangeToDriver .held)
    (after (.phaseHandoff .ch1 .release 0) base)).driver.chans.ch1.pattern = .pass := by decide
/-- t1: I 4845, u 598, so HOLD; t9: I 3320, u −2776, so EXHAUST. -/
theorem test_tracking_holds :
    (after (.chamberSample .ch1 3680 .good 5000) (inDriver { DriverChan.reset with
      phase := .reapply, tracking := true, cap := 3825, integrator := 4700, pattern := .hold } base)).driver.chans.ch1.integrator
    = 4845
    ∧ (after (.chamberSample .ch1 3680 .good 5000) (inDriver { DriverChan.reset with
      phase := .reapply, tracking := true, cap := 3825, integrator := 4700, pattern := .hold } base)).driver.chans.ch1.pattern
    = .hold := by decide
theorem test_tracking_exhausts :
    (after (.chamberSample .ch1 3897 .good 3200) (inDriver { DriverChan.reset with
      phase := .reapply, tracking := true, cap := 3825, integrator := 4017, pattern := .hold } base)).driver.chans.ch1.pattern
    = .exhaust := by decide
theorem test_sag_holds : (after .sagEntry (inDriver { DriverChan.reset with
    phase := .capped, tracking := true, pattern := .exhaust } base)).driver.chans.ch1.pattern = .hold := by decide
theorem test_test_step_waits : (after (.testStep .ch1 .exhaust) base).driver.chans.ch1.pattern = .pass
    ∧ (after (.phaseHandoff .ch1 .test 0) (after (.testStep .ch1 .exhaust) (inMode .service base))).driver.chans.ch1.pattern
      = .exhaust := by decide
theorem test_short_in_release : (after (.overCurrent 5 .ch1 .outlet)
      (after (.phaseHandoff .ch1 .release 0) base)).driver.chans.ch1.inlet.on = true
    ∧ (after (.overCurrent 5 .ch1 .inlet) (after (.phaseHandoff .ch1 .release 0) base)).driver.chans.ch1.outlet.on = false := by
  decide
theorem test_third_open_check : (after (.checkTimerExpiry 9 .ch1 .inlet 0 false) (inDriver { DriverChan.reset with
    inlet := { Solenoid.reset with openCount := 2, timer := some ⟨0, 9⟩ } } base)).handed
    = [.faultNotice (.channelFault .valveOpen .ch1 false)] := by decide

/-! ## Link controller -/

set_option maxRecDepth 20000 in
theorem test_frame_dispatched : (after (.receiveFrame 9 (frameBits (mkFrame 2#8 [1, 160, 39]))) base).handed
    = [.alertReceived 2 [1, 160, 39]] := by decide
set_option maxRecDepth 20000 in
theorem test_request_dispatched : (after (.receiveFrame 9 (frameBits (mkFrame 247#8 [0, 5, 1]))) base).handed
    = [.valveTest ⟨3, 0, 1⟩]
    ∧ (after (.receiveFrame 9 (frameBits (mkFrame 247#8 [0, 5, 1]))) (inStage .listening base)).handed = [] := by decide
theorem test_stuck_line : (after (.stuckExpiry 9) base).handed = [.faultNotice (.observation .linkSilent)] := by decide
theorem test_settling : (after (.lineIdle 9 [true, false, true, true, true]) { base with link := { base.link with
    line := .settling 3 0 } }).link.line = .idle := by decide
set_option maxRecDepth 20000 in
theorem test_alert_first : (after (.transmitStart 9) { base with
      composer := { base.composer with queue := [⟨.lockOnset, some .ch2, .right, 39⟩] }
      link := { base.link with status := ⟨none, some base.composed⟩ } }).link.alert
    = some (mkFrame 0#8 [1, 160, 39]) := by decide
theorem test_status_urgency : ((after (.transmitStart 9) { inPhases (phased .release) (phased .follow) base with
      link := { base.link with status := ⟨none, some base.composed⟩ } }).link.status.inFlight.map fun x => x.frame.contention)
    = some 72#8 := by decide
theorem test_loss_returns : (after (.contentionLoss 9 0) { base with link := { base.link with
    status := ⟨some ⟨base.composed, base.statusFrame base.composed⟩, none⟩ } }).link.status.waiting = some base.composed := by
  decide
theorem test_error_counts : (after (.transmitError 9 57) { base with link := { base.link with
    alert := some (mkFrame 0#8 [1, 160, 39]) } }).handed = [.alertReturned .failed] := by decide
theorem test_success : (after (.transmitSuccess 9) { base with link := { base.link with
    alert := some (mkFrame 0#8 [1, 160, 39]), consecutive := 5 } }).handed = [.alertSent] := by decide
theorem test_silence_ends : (after (.silenceExpiry 1000009) { base with link := { base.link with
    tx := .silent, consecutive := 8, silence := some ⟨9, 1000000⟩ } }).link.tx = .enabled := by decide
/-- R126: of an idle and the expiry at one moment, the idle taken first, the station waits for the next idle. -/
theorem test_silence_waits : (after (.silenceExpiry 1000009) { base with link := { base.link with
      tx := .silent, idleSince := some 1000009, silence := some ⟨9, 1000000⟩ } }).link.awaitIdle = true
    ∧ (after (.lineIdle 1000100 [true]) { base with link := { base.link with line := .settling 3 2, awaitIdle := true } }
      ).link.awaitIdle = false := by decide

/-! ## Report composer: 07, sections 7.6 and 7.7 -/

theorem test_report_period : (after (.reportTimerExpiry 10000) (inMode .quiet base)).composer.timer
    = some ⟨10000, 500000⟩ := by decide
theorem test_quiet_report : ((after (.quietReportChange true) (inMode .quiet base)).link.status.waiting.map fun r => r.mode)
    = some .quiet := by decide
theorem test_sent_count_wraps : (after .statusSuccessNotice { base with composer := { base.composer with sent := 255 } }).composer.sent
    = 0 := by decide
/-- s + 520 and s + 640. -/
theorem test_alert_merges : (after (.alertHanded .lockOnset (some .ch1) 3880) { base with composer := { base.composer with
      queue := [⟨.lockOnset, some .ch1, .left, 42⟩, ⟨.cycleEnd, some .ch1, .left, 0⟩] } }).composer.queue
    = [⟨.lockOnset, some .ch1, .left, 38⟩, ⟨.cycleEnd, some .ch1, .left, 0⟩] := by decide
theorem test_alert_drops : (after (.alertHanded .lockOnset (some .ch2) 4010) { base with composer := { base.composer with
      queue := [⟨.lockOnset, some .ch1, .left, 38⟩, ⟨.cycleEnd, some .ch1, .left, 0⟩, ⟨.moduleHeld, none, .none, 9⟩,
        ⟨.moduleRecovered, none, .none, 0⟩] } }).composer.queue
    = [⟨.cycleEnd, some .ch1, .left, 0⟩, ⟨.moduleHeld, none, .none, 9⟩, ⟨.moduleRecovered, none, .none, 0⟩,
      ⟨.lockOnset, some .ch2, .right, 40⟩] := by decide
theorem test_alert_sent : (after .alertSent { base with composer := { base.composer with
    group := [⟨.moduleHeld, none, .none, 9⟩] } }).composer.group = [] := by decide
/-- 408: the failed group stands ahead of the alert that joined. -/
theorem test_group_returns : (after (.alertReturned .failed) { base with composer := { base.composer with
      group := [⟨.lockOnset, some .ch2, .right, 39⟩], queue := [⟨.channelPassive, some .ch1, .left, 5⟩] } }).composer.queue
    = [⟨.lockOnset, some .ch2, .right, 39⟩, ⟨.channelPassive, some .ch1, .left, 5⟩] := by decide

/-! ## Fault unit: 08, section 8.10 -/

theorem test_speed_wire : (after (.faultNotice (.channelFault .speedWire .ch2 false)) (inPhases (phased .reapply)
      (phased .release) base)).handed = [.phaseHandoff .ch2 .passive 0, .lanePhaseCopy .ch2 .passive,
        .alertHanded .channelPassive (some .ch2) 1] := by decide
theorem test_promotion : (after (.faultNotice (.channelFault .chamberSensor .ch1 false)) { inMode .held (inPhases
      (phased .follow) (phased .passive) base) with fault := { base.fault with mode := .held, seen := 513#16 } }).fault.seen
    = 8713#16
    ∧ (after (.faultNotice (.channelFault .tracking .ch1 false)) (inMode .held (inPhases (phased .test) (phased .inactive)
      base))).handed.contains (.abortEvent .channelFault) = true := by decide
theorem test_cause_cleared : (after (.causeCleared .supplyUnder) { base with fault := { base.fault with
    mode := .held, held := ⟨false, true⟩ } }).fault.mode = .active := by decide
theorem test_sag_notice : (after .supplySagNotice base).fault.supplyEvent = true := by decide
theorem test_quiet_entry : (after .quietEntry base).fault.mode = .quiet
    ∧ (after .quietEntry (inMode .held base)).fault.mode = .held := by decide
theorem test_quiet_exit : (after .quietExit (inMode .quiet base)).fault.mode = .active := by decide
theorem test_service_entry : (after .serviceEntry (inMode .held base)).handed = [.serviceAnswer false] := by decide
theorem test_service_exit : (after .serviceExit (inMode .service base)).fault.mode = .active := by decide
theorem test_service_clear : (after .serviceClear { base with fault := { base.fault with
    seen := 7, supplyEvent := true } }).fault = base.fault := by decide
theorem test_millis : (after (.millisecondCountTick 1000) base).fault.millis = 1
    ∧ (after (.millisecondCountTick 1000) base).fault.milliTimer = some ⟨1000, 1000⟩ := by decide
theorem test_wake : (after (.wakeEvent .brakingRise) (inMode .quiet base)).handed = [.quietExit]
    ∧ (after (.wakeEvent .brakingRise) { base with standstill := some 5 }).standstill = none := by decide

/-! ## Service responder: 11, section 11.4 -/

theorem test_read_record : ((after (.readRecord ⟨3, 0, 0⟩) base).link.reply.waiting.map fun r => r.payload)
    = some [1, 0, 0, 0, 0, 240, 0, 0, 0, 0, 0, 0, 0, 0] := by decide
/-- R191, R192: CLEAR, then READ_RECORD before the fault unit has taken the clearing and after it. -/
theorem test_record_after_clear :
    ((after (.readRecord ⟨3, 0, 0⟩) (after (.clear ⟨3, 0, 0⟩) { base with
        fault := { base.fault with supplyEvent := true, seen := 7 } })).link.reply.waiting.map fun r => r.payload)
      = some [1, 0, 0, 0, 0, 240, 0, 0, 0, 0, 0, 0, 0, 0]
    ∧ ((after (.readRecord ⟨3, 0, 0⟩) (after .serviceClear { base with
        handed := [.serviceClear], fault := { base.fault with supplyEvent := true, seen := 7 } }
      )).link.reply.waiting.map fun r => r.payload) = some [1, 0, 0, 0, 0, 240, 0, 0, 0, 0, 0, 0, 0, 0] := by decide
theorem test_read_stats : ((after (.readStats ⟨3, 0, 0⟩) { base with link := { base.link with
      stats := ⟨258, 0, 1, 0, 0, 65535⟩ } }).link.reply.waiting.map fun r => r.payload)
    = some [2, 0, 1, 2, 0, 0, 0, 1, 0, 0, 0, 0, 255, 255] := by decide
theorem test_clear_moving : ((after (.clear ⟨3, 0, 0⟩) { base with view := { base.view with
    vref := 1 } }).link.reply.waiting.map fun r => r.payload) = some [3, 200] := by decide
theorem test_restart_busy : ((after (.restart ⟨3, 0, 0⟩) { base with service := { base.service with
    test := .running .ch1 1 .hold } }).link.reply.waiting.map fun r => r.payload) = some [4, 216] := by decide
theorem test_valve_test_asks : (after (.valveTest ⟨3, 0, 1⟩) base).service.test = .asking .ch1 := by decide
theorem test_valve_test_supply : ((after (.valveTest ⟨3, 0, 1⟩) { base with supply := { base.supply with
    state := .sag } }).link.reply.waiting.map fun r => r.payload) = some [5, 224] := by decide
theorem test_bad_request : ((after (.badRequest 77 ⟨3, 0, 0⟩) base).link.reply.waiting.map fun r => r.payload)
    = some [77, 232] := by decide
theorem test_test_starts : ((after (.serviceAnswer true) { base with service := { base.service with
    test := .asking .ch1 } }).link.reply.waiting.map fun r => r.payload) = some [5, 64, 1] := by decide
theorem test_test_steps : (after (.stepTimerExpiry 500000) { base with service := { base.service with
    test := .running .ch1 1 .pass, stepTimer := some ⟨200000, 300000⟩ } }).service.test = .running .ch1 2 .hold := by decide
theorem test_test_aborts : ((after (.abortEvent (.edge .right)) { inPhases (phased .test) (phased .inactive) base with
    service := { base.service with test := .running .ch1 2 .hold } }).link.reply.waiting.map fun r => r.payload)
    = some [5, 128, 1, 32] := by decide
theorem test_restart_success : (after (.replySuccessNotice true) { base with service := { base.service with
    restartMark := true } }).startup.stage = .heldInReset := by decide
theorem test_restart_expiry : (after (.restartTimerExpiry 100000) { base with service := { base.service with
    restartMark := true, restartTimer := some ⟨0, 100000⟩ } }).startup.stage = .heldInReset := by decide

/-! ## States that meet the hypotheses of the statements

Each theorem is named after its statement; its conjuncts are the clauses, each at a boundary of its range. -/

/-- The default parameters stand in their ranges. -/
theorem witness_SettledParametersInRange : defaultParams.InRange := by
  refine ⟨?_, ?_, ?_, ?_, ?_, ?_, ?_, ?_, ?_, ?_, ?_, ?_, ?_, ?_, ?_, ?_, ?_, ?_, ?_, ?_, ?_, ?_, ?_⟩ <;>
    first | decide | (unfold PerSensor.inRange; decide)

/-- A station with one command waiting. -/
def waiting (c : Instr) (s : State) : State := { s with pending := [c] }

theorem witness_StepKeepsDriveLaw : (waiting .sagEntry base).DriveLaw
    ∧ step (waiting .sagEntry base) = .next (after .sagEntry base) := by
  refine ⟨⟨fun c => ?_, fun h => by simp [waiting, base] at h⟩, rfl⟩
  cases c <;> exact ⟨rfl, rfl, ⟨by decide, by decide, by decide⟩, ⟨by decide, by decide, by decide⟩, by decide, by decide,
    by decide, by decide⟩
theorem witness_StepKeepsFaultLaw : (waiting .sagEntry base).FaultLaw
    ∧ step (waiting .sagEntry base) = .next (after .sagEntry base) := by
  refine ⟨⟨by decide, by decide, fun r h => by simp [waiting, base, FaultUnit.reset] at h, rfl, by decide,
    fun r h => by simp [waiting, base, FaultUnit.reset] at h⟩, rfl⟩
theorem witness_StepKeepsLinkLaw : (waiting .sagEntry base).LinkLaw
    ∧ step (waiting .sagEntry base) = .next (after .sagEntry base) := by
  refine ⟨⟨by decide, by decide, by decide, by decide, by decide, by decide, by decide, by decide⟩, rfl⟩
theorem witness_StepKeepsSpeedLaw : (waiting .sagEntry base).SpeedLaw
    ∧ step (waiting .sagEntry base) = .next (after .sagEntry base) := by
  refine ⟨fun i => ?_, rfl⟩
  cases i <;> exact ⟨by decide, by decide, ⟨by decide, by decide, by decide, by decide⟩, by decide, by decide, by decide,
    by decide, by decide, by decide, by decide, by decide, by decide⟩
theorem witness_StepKeepsRangeLaw : (∀ c, (waiting .sagEntry base).pending.head? = some c → c.wf = true)
    ∧ (waiting .sagEntry base).RangeLaw ∧ step (waiting .sagEntry base) = .next (after .sagEntry base) := by
  refine ⟨fun c h => ?_, ⟨fun q h => ?_, ?_, by decide, fun p => ?_, ?_, fun p i => ?_, by decide, fun c => ?_, ?_⟩, rfl⟩
  · obtain rfl : Instr.sagEntry = c := by simpa [waiting] using h
    rfl
  · obtain rfl : defaultParams = q := by simpa [waiting, base] using h
    exact witness_SettledParametersInRange
  · exact ⟨⟨by decide, by decide, by decide⟩, ⟨by decide, by decide, by decide⟩,
      fun c => by cases c <;> exact ⟨by decide, by decide, by decide⟩⟩
  · have e : quadGet (waiting .sagEntry base).view.peers p = PeerEntry.reset := by
      rcases quad_cases p with rfl | rfl | rfl | rfl <;> rfl
    rw [e]
    exact ⟨by decide, ⟨by simp [PeerEntry.reset], by simp [PeerEntry.reset]⟩,
      fun i => by cases i <;> exact ⟨by simp [PeerEntry.reset, Lane.absent, sideGet], by decide, by decide⟩, by decide,
      fun _ => ⟨rfl, rfl, fun i => by cases i <;> rfl⟩⟩
  · decide
  · have e : sideGet (quadGet (waiting .sagEntry base).view.lanes p) i = Lane.absent := by
      rcases quad_cases p with rfl | rfl | rfl | rfl <;> cases i <;> rfl
    rw [e]
    exact ⟨by simp [Lane.absent], by decide, by decide⟩
  · cases c <;> exact ⟨by decide, by decide, by decide, by decide, by decide⟩
  · intro h; exact absurd h (by decide)
theorem witness_HandOffsKeepTheirOrder : handOffOrder (.capStepHandoff .ch1 0) = some (.driverPhase .ch1)
    ∧ { base with handed := [.phaseHandoff .ch1 .capped 0, .capStepHandoff .ch1 0] }.handed.find?
        (fun x => decide (handOffOrder x = some (HandOffOrder.driverPhase .ch1))) = some (.phaseHandoff .ch1 .capped 0)
    ∧ Instr.phaseHandoff .ch1 .capped 0 ≠ .capStepHandoff .ch1 0 ∧ AlertKind.positionClash ≠ .lockOnset
    ∧ AlertKind.positionClash ≠ .cycleEnd := by decide
/-- A station that has given up everything. -/
def givenUp : State :=
  inputL { SpeedInput.reset with state := .failed } (inPhases (phased .passive) (phased .inactive)
    (inDriver { DriverChan.reset with inlet := { Solenoid.reset with shortLock := true } } base))
theorem witness_GivenUpStaysGivenUp : isResetCommand .sagEntry = false ∧ exec .sagEntry givenUp = .next (after .sagEntry givenUp)
    ∧ givenUp.slip.ch1.phase = .passive ∧ givenUp.speed.inputs.left.state = .failed
    ∧ givenUp.driver.chans.ch1.inlet.shortLock = true := by
  refine ⟨rfl, rfl, ?_⟩; decide
theorem witness_FaultMemoryIsKept : Instr.sagEntry ≠ .powerOnReset ∧ Instr.sagEntry ≠ .serviceClear
    ∧ exec .sagEntry { base with fault := { base.fault with seen := 32768, supplyEvent := true } }
      = .next (after .sagEntry { base with fault := { base.fault with seen := 32768, supplyEvent := true } }) := by
  refine ⟨by decide, by decide, rfl⟩
theorem witness_ModeChangesOnlyByItsCommands : isResetCommand .quietEntry = false
    ∧ exec .quietEntry base = .next (after .quietEntry base) ∧ (after .quietEntry base).fault.mode ≠ base.fault.mode := by
  refine ⟨rfl, rfl, ?_⟩; decide
/-- A station that can restart by each of its three causes, with a record and two hand-offs of an entry to SAG. -/
def restarting (handed : List Instr) : State :=
  { base with
    service := { base.service with restartMark := true, restartTimer := some ⟨0, 100000⟩ }
    supply := { base.supply with brownOut := some ⟨0, 1000⟩ }
    fault := { base.fault with seen := 3 }
    handed := handed }
theorem witness_WarmRestartKeepsFaultMemory : timerDue (restarting []).service.restartTimer 100000 = true
    ∧ (restarting []).service.restartMark = true ∧ timerDue (restarting [.sagEntry]).supply.brownOut 1000 = true
    ∧ (restarting [.sagEntry]).handed.contains .supplySagNotice = false
    ∧ (restarting [.sagEntry, .supplySagNotice]).handed.contains .supplySagNotice = true
    ∧ base.service.restartMark = false ∧ timerDue (restarting []).service.restartTimer 99999 = false
    ∧ timerDue (restarting [.sagEntry]).supply.brownOut 999 = false := by decide
/-- A supply state with its runs, at 24 V. -/
def supplied (x : SupplyState) (underRun recoveryRun riseRun : Option Time) : State :=
  { base with supply := { base.supply with
      state := x, underRun := underRun, recoveryRun := recoveryRun, riseRun := riseRun } }
theorem witness_SupplyReadingsMoveState :
    (supplied .normal none none none).startup.nominal = some .v24 ∧ timerDue base.supply.timer 1000 = true
      ∧ 2000 ≤ min 4095 2000 ∧ 1999 < 2000
      ∧ (supplied .sag (some 0) none none).supply.underRun = some 0 ∧ 1599 < 1600 ∧ 50000 ≤ ((50000 : Time) - 0).toNat
      ∧ (supplied .sag none (some 0) none).supply.recoveryRun = some 0 ∧ 2100 ≤ min 4095 2100
      ∧ 100000 ≤ ((100000 : Time) - 0).toNat
      ∧ (supplied .sag none none none).supply.underRun = none
      ∧ (supplied .under none (some 100000) (some 0)).supply.riseRun = some 0
      ∧ 200000 ≤ ((200000 : Time) - 0).toNat ∧ 100000 ≤ ((200000 : Time) - 100000).toNat
      ∧ (supplied .under none none (some 0)).supply.recoveryRun = none ∧ 1800 ≤ min 4095 1800
      ∧ (supplied .under none none none).supply.state = .under ∧ 1799 < 1800
      ∧ base.supply.brownOut = none ∧ base.supply.state = .normal ∧ base.supply.underRun = none
      ∧ timerDue (some ⟨0, 1000⟩) 999 = false
      ∧ some (0 : Time) = (if (supplied .sag (some 0) none none).supply.state ≠ .under ∧ 1599 < 1600
          then some ((supplied .sag (some 0) none none).supply.underRun.getD 49999) else none)
      ∧ ¬ 50000 ≤ ((49999 : Time) - (some (0 : Time)).getD 49999).toNat
      ∧ ¬ 100000 ≤ ((500000 : Time) - (some (450000 : Time)).getD 500000).toNat
      ∧ (SupplyState.under = .under ∨ 50000 ≤ ((0 : Time) - (none : Option Time).getD 0).toNat)
      ∧ { base.supply with brownOut := some ⟨0, 1000⟩ }.brownOut ≠ none ∧ State.reset.supply.brownOut = none
      ∧ base.supply.timer = some ⟨0, 1000⟩ ∧ 1000 ≤ ((1000 : Time) - 0).toNat ∧ timerDue base.supply.timer 999 = false
      ∧ State.reset.startup.nominal = none ∧ timerDue (some ⟨0, 1000⟩) 1000 = true := by decide
set_option maxRecDepth 40000 in
/-- A block of zeros fails its version; the block of the last conjunct has version 1, the right check, and S clamped to 2. A
short-locked solenoid keeps its check timer stopped. -/
theorem witness_StartSequenceAndReadCompletion : State.reset.startup.stage = .heldInReset
    ∧ (3 : Position).val = 2 * (Straps.mk true true true false).pos1.toNat + (Straps.mk true true true false).pos0.toNat
    ∧ (inStage .reading base).startup.stage = .reading ∧ (inStage .reading base).startup.position = some 0
    ∧ base.arrangement = .split ∧ (joined base).arrangement = .joined ∧ givenUp.driver.chans.ch1.inlet.shortLock = true
    ∧ base.driver.chans.ch1.inlet.shortLock = false ∧ byteAt (List.replicate 64 0) 0 ≠ 1#8
    ∧ (byteAt (1#8 :: List.replicate 61 0 ++ natBytes 2 (crcBits (bytesBits (1#8 :: List.replicate 61 0))).toNat) 0 = 1#8
      ∧ (crcBits (bytesBits ((1#8 :: List.replicate 61 0
            ++ natBytes 2 (crcBits (bytesBits (1#8 :: List.replicate 61 0))).toNat).take 62))).toNat
          = bytesNat (1#8 :: List.replicate 61 0
            ++ natBytes 2 (crcBits (bytesBits (1#8 :: List.replicate 61 0))).toNat) 62 2)
    ∧ (∀ i, i < 64 → ((List.range 64).map (BitVec.ofNat 8))[i]? = some (BitVec.ofNat 8 i) ∧ i < 256) := by
  refine ⟨?_, ?_, ?_, ?_, ?_, ?_, ?_, ?_, ?_, ?_, fun i h => ⟨by rw [List.getElem?_map, List.getElem?_range h]; rfl, by omega⟩⟩
  all_goals decide
theorem witness_StartSequenceAndReadCompletion_void : base.startup.stage ≠ .heldInReset ∧ base.startup.stage ≠ .reading := by
  decide
theorem witness_ListenAndStartingExpiries :
    (inStage .listening base).startup.stage = .listening ∧ timerDue (some ⟨0, 50000⟩) 50000 = true
      ∧ base.startup.configBad = false ∧ (inMode .starting base).fault.mode = .starting ∧ base.fault.record = none
      ∧ base.slip.ch1.phase ≠ .passive ∧ base.arrangement = .split ∧ base.slip.ch2.phase ≠ .passive
      ∧ (joined (inPhases (phased .inactive) (phased .passive) base)).slip.ch2.phase = .passive
      ∧ { base.startup with configBad := true }.configBad = true ∧ (inMode .passive base).fault.mode = .passive
      ∧ (inMode .latched base).fault.mode = .latched
      ∧ (inStage .reporting base).startup.stage = .reporting ∧ timerDue (some ⟨0, 200000⟩) 200000 = true
      ∧ timerDue (some ⟨0, 50000⟩) 49999 = false ∧ base.startup.stage ≠ .listening ∧ base.startup.stage ≠ .reporting := by decide
/-- A latched record. -/
def latchedRecord : FaultRecord := ⟨.positionClash, none, none, .active, 5, 0, true⟩
theorem witness_EndOfStartingSettlesMode : base.begun = true
    ∧ { inMode .starting base with fault := { base.fault with mode := .starting, record := some latchedRecord } }.fault.record
      = some latchedRecord ∧ latchedRecord.latch = true
    ∧ (inMode .starting base).fault.held = ⟨false, false⟩ ∧ (inMode .starting base).fault.record = none
    ∧ (HeldSet.mk true true).demandLost = true ∧ (inMode .passive base).fault.mode = .passive
    ∧ (inMode .latched base).fault.mode = .latched := by decide
theorem witness_ToothEdgeCounted : base.unitsOn = true ∧ base.speed.inputs.left.state ≠ .failed
    ∧ State.reset.unitsOn = false ∧ givenUp.speed.inputs.left.state = .failed := by decide
theorem witness_WindowCloseHandsSamplePair : base.unitsOn = true ∧ base.speed.window = some ⟨0, 5000⟩
    ∧ 5000 ≤ ((5000 : Time) - 0).toNat
    ∧ givenUp.speed.inputs.left.state = .failed ∧ givenUp.speed.inputs.left.speed = 0 ∧ givenUp.speed.inputs.left.accel = 0
    ∧ (after (.windowClose 5000 ⟨.opened, .good⟩) base).speed.inputs.left.state = .failed
    ∧ (after (.windowClose 5000 ⟨.opened, .good⟩) base).speed.inputs.right.state ≠ .failed
    ∧ timerDue base.speed.window 4999 = false ∧ State.reset.unitsOn = false := by decide
/-- A third discard of 25 edges, or of 3 edges over 12,180 µs that measure 1980 beside 2141; and the dead check at 398 and 399
closes, with vref 960 and 959. -/
theorem witness_WindowFaultsFailInput : base.unitsOn = true ∧ timerDue base.speed.window 5000 = true
    ∧ base.speed.inputs.right.state ≠ .failed ∧ sideGet (⟨.good, .shorted⟩ : Sides WireReport) .right ≠ .good
    ∧ sideGet goodWires .left = .good ∧ 24 < { lockingInput with edges := 25, jumps := 2 }.edges
    ∧ { lockingInput with jumps := 2 }.jumps = 2 ∧ 12180 = ((13180 : Time) - 1000).toNat
    ∧ 2 * 12180 * 1980 ≤ 2 * 8038400 * lockingInput.edges + 12180
    ∧ 2 * 8038400 * lockingInput.edges + 12180 < 2 * 12180 * 1981
    ∧ 1980 + base.params.jumpLimit < { lockingInput with speed := 2141 }.speed
    ∧ { SpeedInput.reset with state := .starting, edges := 25, jumps := 2 }.startMark = false
    ∧ { SpeedInput.reset with dead := 399, jumps := 2 }.state = .standstill ∧ 398 < 399
    ∧ (∀ c, (chanGet base.slip c).phase ∉ [Phase.hold, .release, .recover, .reapply])
    ∧ { base.view with vref := 960 }.vref = 960 ∧ ¬ 960 ≤ { base.view with vref := 959 }.vref := by
  refine ⟨?_, ?_, ?_, ?_, ?_, ?_, ?_, ?_, ?_, ?_, ?_, ?_, ?_, ?_, fun c => by cases c <;> decide, ?_, ?_⟩ <;> decide
/-- The bus at 15 km/h. -/
def movingBase : State := { base with view := { base.view with vref := 960 } }
/-- The hypothesis on `moving` holds of no on the standing bus and of yes on the moving one. -/
theorem witness_moving_judged :
    (false = true ↔ 960 ≤ base.view.vref ∧ ∀ c, (chanGet base.slip c).phase ∉ [Phase.hold, .release, .recover, .reapply])
    ∧ (true = true ↔ 960 ≤ movingBase.view.vref
      ∧ ∀ c, (chanGet movingBase.slip c).phase ∉ [Phase.hold, .release, .recover, .reapply]) :=
  ⟨⟨fun h => absurd h (by decide), fun h => absurd h.1 (by decide)⟩,
    ⟨fun _ => ⟨by decide, fun c => by cases c <;> decide⟩, fun _ => rfl⟩⟩
/-- The first conjuncts are the common hypotheses (that on `moving` is witness_moving_judged's); then n1 of 01, section 1.11, and a burst of 25 edges. -/
theorem witness_RunningInputIsMeasured : base.unitsOn = true ∧ timerDue base.speed.window 15000 = true
    ∧ lockingInput.state = .running ∧ sideGet goodWires .left = .good ∧ lockingInput.jumps = 0
    ∧ lockingInput.refEdge = some 1000 ∧ lockingInput.lastEdge = some 13180 ∧ 12180 = ((13180 : Time) - 1000).toNat
    ∧ 2 * 12180 * 1980 ≤ 2 * 8038400 * lockingInput.edges + 12180
    ∧ 2 * 8038400 * lockingInput.edges + 12180 < 2 * 12180 * 1981 ∧ lockingInput.edges ≤ 24
    ∧ lockingInput.speed ≤ 1980 + base.params.jumpLimit ∧ { lockingInput with edges := 25 }.edges > 24
    ∧ 1980 + base.params.jumpLimit < { lockingInput with speed := 2141, jumps := 1 }.speed
    ∧ { lockingInput with jumps := 1 }.jumps ≤ 1 ∧ 16383 = min 16383 20000
    ∧ 0 < 1980 ∧ { lockingInput with dead := 398 }.dead < 399 ∧ 1 = max 1 ((1000 : Time) - 1000).toNat := by decide
/-- With K 9,043,200 the bound is 64 after 141,300 µs and 63 after 141,301 µs. -/
theorem witness_StillInputIsBounded : base.unitsOn = true ∧ timerDue base.speed.window 15000 = true
    ∧ { lockingInput with edges := 0, refEdge := some 0, jumps := 2 }.edges = 0
    ∧ { lockingInput with edges := 0, refEdge := some 0, jumps := 2 }.jumps ≤ 2
    ∧ 64 ≤ base.constants.left / ((141300 : Time) - 0).toNat ∧ base.constants.left / ((141301 : Time) - 0).toNat < 64
    ∧ base.speed.inputs.left.state = .standstill
    ∧ 398 < 399 ∧ { SpeedInput.reset with state := .starting, dead := 399 }.dead = 399 := by decide
/-- A STARTING input before its first close, then in later windows: still, stopped, measured and in a burst. -/
def startingInput : SpeedInput :=
  { SpeedInput.reset with state := .starting, edges := 3, lastEdge := some 13180, refEdge := some 1000 }
theorem witness_StartingInputSettles : base.unitsOn = true ∧ timerDue base.speed.window 15000 = true
    ∧ startingInput.state = .starting ∧ sideGet goodWires .left = .good
    ∧ { startingInput with jumps := 2 }.jumps ≤ 2 ∧ 1 ≤ { startingInput with startMark := true }.edges
    ∧ startingInput.startMark = false ∧ { startingInput with edges := 0 }.refEdge = some 1000
    ∧ 64 ≤ base.constants.left / ((141300 : Time) - 0).toNat ∧ base.constants.left / ((141301 : Time) - 0).toNat < 64
    ∧ startingInput.edges ≤ 24 ∧ 12180 = ((13180 : Time) - 1000).toNat
    ∧ 2 * 12180 * 2227 ≤ 2 * base.constants.left * startingInput.edges + 12180
    ∧ 2 * base.constants.left * startingInput.edges + 12180 < 2 * 12180 * 2228
    ∧ 24 < { startingInput with edges := 25, jumps := 1 }.edges ∧ { startingInput with jumps := 1 }.jumps ≤ 1
    ∧ 398 < 399 ∧ { SpeedInput.reset with state := .starting, dead := 399 }.dead = 399 := by decide
/-- A station whose demand sensor has failed. -/
def demandFailed : State :=
  { base with pressure := { base.pressure with demand := { Sensor.reset with state := .failed } } }
/-- The same with a FRESH peer that reports 50. -/
def demandFromPeer : State := withPeer 1 { PeerEntry.reset with state := .fresh, demand := some 50 } demandFailed
theorem witness_PressureSampleReadsInputs_void : timerDue base.pressure.timer 999 = false ∧ State.reset.unitsOn = false := by
  decide
/-- Both joined and split; the demand sensor good, failed with a peer's demand, and failed without one. -/
theorem witness_PressureSampleReadsInputs : base.unitsOn = true ∧ base.pressure.timer = some ⟨0, 1000⟩
    ∧ 1000 ≤ ((1000 : Time) - 0).toNat ∧ base.pressure.demand.state = .good ∧ base.arrangement = .split
    ∧ (joined base).arrangement = .joined
    ∧ (after (.pressureSample 1000 (codes 205)) base).pressure.demand.state = .good
    ∧ (after (.pressureSample 1000 (codes 205)) demandFailed).pressure.demand.state = .failed
    ∧ (quadGet demandFromPeer.view.peers 1).demand = some 50
    ∧ (∀ q e, (quadGet demandFromPeer.view.peers q).state = .fresh →
        (quadGet demandFromPeer.view.peers q).demand = some e → e ≤ 50)
    ∧ ∀ q, (quadGet demandFailed.view.peers q).state = .fresh → (quadGet demandFailed.view.peers q).demand = none := by
  refine ⟨by decide, by decide, by decide, by decide, by decide, by decide, by decide, by decide, by decide, fun q e => ?_,
    by decide⟩
  match q with
  | 0 => intro h; exact absurd h (by decide)
  | 1 => intro _ h; have : some 50 = some e := h; simp at this; omega
  | 2 => intro h; exact absurd h (by decide)
  | 3 => intro h; exact absurd h (by decide)
/-- Codes 509 and 508 read 302 and 298 mbar beside P_on 300; codes 476 and 475 read 201 and 198 beside P_off 200. -/
theorem witness_BrakingFlagFollowsDemand : base.unitsOn = true ∧ timerDue base.pressure.timer 1000 = true
    ∧ base.pressure.braking = false ∧ (braked 300 300 base).pressure.braking = true
    ∧ base.params.pOn ≤ (after (.pressureSample 1000 (codes 509)) base).pressure.pd
    ∧ (after (.pressureSample 1000 (codes 508)) base).pressure.pd < base.params.pOn
    ∧ (after (.pressureSample 1000 (codes 475)) (braked 300 300 base)).pressure.pd < base.params.pOff
    ∧ base.params.pOff ≤ (after (.pressureSample 1000 (codes 476)) (braked 300 300 base)).pressure.pd := by decide
theorem witness_EconomyFlagFollowsRuns : base.unitsOn = true ∧ timerDue base.pressure.timer 500000 = true
    ∧ (after (.pressureSample 500000 (codes 1000)) base).pressure.reservoir.reading < base.params.pEcon
    ∧ (after (.pressureSample 2000000 (codes 3891)) base).pressure.reservoir.reading ≥ base.params.pEcon + 500
    ∧ (after (.pressureSample 500000 (codes 1000)) base).pressure.reservoir.state = .good
    ∧ 500000 ≤ ((500000 : Time) - 0).toNat ∧ ((499999 : Time) - 0).toNat < 500000 ∧ 2000000 ≤ ((2000000 : Time) - 0).toNat
    ∧ (after (.pressureSample 1000 (codes 204)) { base with pressure := { base.pressure with
        reservoir := { Sensor.reset with outOfBand := 4 } } }).pressure.reservoir.state = .failed := by decide
theorem witness_EntriesAge : { PeerEntry.reset with state := .fresh, accepted := some 0 }.accepted = some 0
    ∧ (if (PeerEntry.reset).mode = .quiet then 1500000 else 30000) ≤ ((30000 : Time) - 0).toNat
    ∧ (if (PeerEntry.reset).mode = .quiet then 3000000 else 100000) ≤ ((100000 : Time) - 0).toNat
    ∧ { base.view with missing := .running ⟨0, 1000000⟩ }.missing = .running ⟨0, 1000000⟩
    ∧ 1000000 ≤ ((1000000 : Time) - 0).toNat
    ∧ ((29999 : Time) - 0).toNat < 30000 ∧ ((99999 : Time) - 0).toNat < 100000
    ∧ { PeerEntry.reset with state := .stale }.state ≠ .fresh ∧ { PeerEntry.reset with state := .fresh }.state ≠ .stale
    ∧ ((999999 : Time) - 0).toNat < 1000000 := by decide
/-- R37's boundaries from last sequence 250: distances 1, 128, 129 and 0; an own, a foreign and an expected sender. -/
theorem witness_SenderAndSequenceAreJudged : base.unitsOn = true ∧ (1 : Position) ≠ base.position
    ∧ (1 : Position).val < base.params.stations ∧ (quadGet base.view.peers 1).state = .empty
    ∧ ((251#8 : Byte) - 250).toNat = 1 ∧ ((122#8 : Byte) - 250).toNat = 128 ∧ 128 < ((123#8 : Byte) - 250).toNat
    ∧ ((250#8 : Byte) - 250).toNat = 0
    ∧ (0 : Fin 8).val = base.position.val
    ∧ base.params.stations ≤ (3 : Fin 8).val ∧ (2 : Fin 8).val < base.params.stations ∧ base.params.stations ≤ 4
    ∧ (List.replicate 12 (0 : Byte)).length ≠ 13 ∧ (List.replicate 4 (0 : Byte)).length ∉ [3, 6, 9, 12] := by decide
theorem witness_StatusPayloadReadsBack : base.composed.vref ≤ 16383 ∧ base.composed.left.speed = none
    ∧ base.composed.right.speed = none ∧ -128 ≤ base.composed.left.accel ∧ base.composed.left.accel ≤ 127
    ∧ -128 ≤ base.composed.right.accel ∧ base.composed.right.accel ≤ 127 ∧ base.composed.demand = some 0
    ∧ base.composed.reservoir = some 0
    ∧ (LaneCode.openLane, 0) ∈ [(LaneCode.openLane, 0), (.capped, 1)]
    ∧ ((0xEF#8 :: List.replicate 12 (151#8 : Byte))).length = 13 ∧ (byteAt (7#8 :: 0xEF#8 :: List.replicate 11 151#8) 1).toNat / 32 = 7
    ∧ ¬ (byteAt (List.replicate 13 151#8) 11).toNat ≤ 150 ∧ (byteAt (List.replicate 13 150#8) 11).toNat ≤ 150
    ∧ (byteAt (List.replicate 13 127#8) 9).toNat < 128
    ∧ { kind := AlertKind.lockOnset, channel := some Channel.ch2, side := AlertSide.right, value := 255 : Alert }.value ≤ 255 := by decide
/-- A FRESH sender in QUIET, last heard 100 ms ago. -/
def quietPeer : State :=
  withPeer 1 { PeerEntry.reset with state := .fresh, accepted := some 0, mode := .quiet } { base with now := 100000 }
/-- Channel fields 0 to 3, kinds 0 and 8; a sender last heard at 0 in QUIET, at 29,999, 30,000, 99,999 and 100,000 µs. -/
theorem witness_AlertEntriesAreApplied : base.unitsOn = true ∧ (1 : Position) ≠ base.position
    ∧ (1 : Position).val < base.params.stations ∧ base.link.stats.foreignFrames ≤ 65535
    ∧ { PeerEntry.reset with state := .fresh }.arrangement = .split
    ∧ { PeerEntry.reset with state := .stale, arrangement := .joined }.arrangement = .joined ∧ (0x50#8).toNat / 64 = 1
    ∧ (0xA0#8).toNat / 64 = 2 ∧ (0#8).toNat / 64 = 0 ∧ (0xC0#8).toNat / 64 = 3 ∧ (0#8).toNat = 0 ∧ 8 ≤ (8#8).toNat
    ∧ (quadGet base.view.peers 1).state = .empty
    ∧ (6#8, Mode.latched) ∈ [(4#8, Mode.held), (5#8, .passive), (6#8, .latched), (7#8, .active)]
    ∧ { PeerEntry.reset with state := .fresh, accepted := some 0, mode := .quiet }.mode = .quiet
    ∧ ((29999 : Time) - 0).toNat < 30000 ∧ 30000 ≤ ((30000 : Time) - 0).toNat ∧ ((99999 : Time) - 0).toNat < 100000
    ∧ 100000 ≤ ((100000 : Time) - 0).toNat
    ∧ ([1, 160, 39] : List Byte).length = 3 ∧ ([1, 160, 39, 2, 64, 0, 4, 0, 9] : List Byte).length = 9
    ∧ exec (.alertReceived 1 [4, 0, 9]) quietPeer = .next (after (.alertReceived 1 [4, 0, 9]) quietPeer)
    ∧ (quadGet (after (.alertReceived 1 [4, 0, 9]) quietPeer).view.peers 1).state = .lost
    ∧ (quadGet (after (.alertReceived 1 [1, 64, 39]) quietPeer).view.peers 1).state ≠ .lost := by
  refine ⟨?_, ?_, ?_, ?_, ?_, ?_, ?_, ?_, ?_, ?_, ?_, ?_, ?_, ?_, ?_, ?_, ?_, ?_, ?_, ?_, ?_, rfl, ?_, ?_⟩ <;> decide
theorem witness_PhaseIsCopiedToOwnLanes : base.begun = true ∧ base.inTurn (.lanePhaseCopy .ch2 .hold) = true
    ∧ (joined base).inTurn (.lanePhaseCopy .ch2 .hold) = true
    ∧ (Phase.hold, LaneCode.hold) ∈ [(Phase.inactive, LaneCode.openLane), (.follow, .openLane), (.capped, .capped),
      (.hold, .hold), (.release, .release), (.recover, .recover), (.reapply, .reapply), (.passive, .passive),
      (.test, .test)] := by decide
theorem witness_SamplePairRampsVref : base.unitsOn = true ∧ base.view.firstWindow = true
    ∧ (∀ p, (quadGet base.view.peers p).state ≠ .fresh) ∧ (braked 5000 4200 base).pressure.braking = true
    ∧ (Sample.mk .running 2222 0 false).state = .running ∧ (quadGet base.view.lanes base.position).left.code ≠ .release
    ∧ (Sample.mk .failed 0 0 false).state = .failed ∧ (1 : Position) ≠ base.position
    ∧ (quadGet base.view.peers 1).state = .empty ∧ (quadGet quietPeer.view.peers 1).state = .fresh := by
  decide
/-- No candidate; the highest of the candidates 2222 and 2215 while braking; without braking the own lanes of station 0, which
the default free-rolling set names; and a FRESH peer's vref. -/
theorem witness_VrefTakesCandidateValue : base.unitsOn = true ∧ (braked 5000 4200 base).pressure.braking = true
    ∧ base.pressure.braking = false ∧ base.params.freeRolling.getLsbD (0 : Position).val = true
    ∧ base.params.freeRolling.getLsbD (1 : Position).val = false
    ∧ (after (.samplePair ⟨⟨.running, 2222, 0, false⟩, ⟨.running, 2215, 0, false⟩⟩) base).view.lanes.p0.left.speed = some 2222
    ∧ (quadGet (withPeer 1 { PeerEntry.reset with state := .fresh, vref := 1650 } base).view.peers 1).state = .fresh
    ∧ (∀ p, (quadGet base.view.peers p).state ≠ .fresh) := by decide
/-- A still station in ACTIVE without a run, and with one of 2,999,999 and of 3,000,000 µs; a moving one; and QUIET. -/
theorem witness_StandstillEntersQuiet : base.unitsOn = true ∧ base.fault.mode = .active ∧ base.standstill = none
    ∧ (after (.samplePair ⟨⟨.standstill, 0, 0, false⟩, ⟨.standstill, 0, 0, false⟩⟩) base).view.vref = 0
    ∧ (∀ p, (quadGet base.view.peers p).state ≠ .fresh ∧ (quadGet base.view.peers p).state ≠ .stale)
    ∧ { base with standstill := some 0 }.standstill = some 0 ∧ ¬ 3000000 ≤ ((2999999 : Time) - 0).toNat
    ∧ 3000000 ≤ ((3000000 : Time) - 0).toNat ∧ (inMode .quiet base).fault.mode ≠ .active
    ∧ (after (.samplePair ⟨⟨.running, 2222, 0, false⟩, ⟨.standstill, 0, 0, false⟩⟩) base).view.vref ≠ 0 := by decide
theorem witness_ReferenceUpdateRunsLockCycle : base.unitsOn = true ∧ base.fault.mode = .active
    ∧ (braked 5000 4200 base).pressure.braking = true ∧ base.params.vMin ≤ (updateL 320 100 0).vref
    ∧ base.params.vEntry ≤ (updateL 512 100 0).vref ∧ (-46 : Int) ≤ -(base.params.a1 : Int)
    ∧ ((max base.params.slipAbs (2234 * base.params.slipRel / 256) : Nat) : Int) ≤ (2234 : Int) - 2008
    ∧ (base.params.a2 : Int) ≤ 23 ∧ (22 : Int) < (base.params.a2 : Int) ∧ 118 + 1 < base.params.tRelMax
    ∧ base.params.tRelMax ≤ 119 + 1 ∧ (base.params.a3 : Int) ≤ 92 ∧ -(base.params.a1 : Int) < (-45 : Int)
    ∧ 10 + 1 < base.params.stepPeriod ∧ base.params.stepPeriod ≤ 11 + 1
    ∧ (updateL 511 100 0).vref < base.params.vEntry ∧ (joined base).arrangement = .joined
    ∧ ((128 : Nat) : Int) ≤ (512 : Int) - 384
    ∧ exec (.referenceUpdate (updateL 512 384 (-46))) (inPhases (phased .follow) (phased .release) (braked 5000 4200 base))
      = .next (after (.referenceUpdate (updateL 512 384 (-46)))
          (inPhases (phased .follow) (phased .release) (braked 5000 4200 base)))
    ∧ (after (.referenceUpdate (updateL 512 384 (-46))) (inPhases (phased .follow) (phased .release) (braked 5000 4200 base))
        ).handed = [.phaseHandoff .ch1 .hold 0, .lanePhaseCopy .ch1 .hold, .alertHanded .lockOnset (some .ch1) 4200] := by
  refine ⟨?_, ?_, ?_, ?_, ?_, ?_, ?_, ?_, ?_, ?_, ?_, ?_, ?_, ?_, ?_, ?_, ?_, ?_, rfl, ?_⟩ <;> decide
theorem witness_ReferenceUpdateEndsCycle : base.unitsOn = true ∧ base.arrangement = .split
    ∧ (inMode .starting base).fault.mode ∈ [Mode.starting, .service, .passive, .latched]
    ∧ base.fault.mode ∈ [Mode.active, .quiet, .held] ∧ base.pressure.braking = false
    ∧ (updateL 319 100 0).vref < base.params.vMin
    ∧ (2240 : Int) - 2127 < ((max base.params.slipAbs (2240 * base.params.slipRel / 256) / 2 : Nat) : Int) + 1
    ∧ -((base.params.a1 / 2 : Nat) : Int) < (-22 : Int) ∧ (-23 : Int) ≤ -((base.params.a1 / 2 : Nat) : Int)
    ∧ (2240 : Int) - 2014 < ((max base.params.slipAbs (2240 * base.params.slipRel / 256)
        + (if base.pressure.economy then base.params.slipAbs else 0) : Nat) : Int)
    ∧ ((max base.params.slipAbs (2240 * base.params.slipRel / 256) / 2 : Nat) : Int) ≤ (2240 : Int) - 2127
    ∧ (inMode .held (braked 5000 4200 base)).fault.mode ∈ [Mode.quiet, .held]
    ∧ (braked 5000 4200 base).pressure.braking = true ∧ base.params.vMin ≤ (updateL 320 100 0).vref
    ∧ (phased .inactive).faultWait = false ∧ (phased .follow).phase = .follow
    ∧ (updateL 319 100 0).samples.left.state ≠ .failed := by decide
theorem witness_YawConditionCapsChannel : base.unitsOn = true ∧ base.startup.position = some 0
    ∧ base.arrangement = .split ∧ Channel.ch1 ≠ .ch2 ∧ (phased .hold).phase ∈ [Phase.hold, .release, .recover, .reapply]
    ∧ (phased .follow).yawSpent = false ∧ 4974 + base.params.yawStep < 5000
    ∧ 5000 ≤ 4975 + base.params.yawStep ∧ (phased .inactive).phase ∉ [Phase.hold, .release, .recover, .reapply]
    ∧ (quadGet (withPeer 1 { PeerEntry.reset with state := .fresh, lanes := ⟨Lane.absent, { Lane.absent with code := .release }⟩ }
        base).view.peers 1).lanes.right.code = .release
    ∧ (∀ p : Position, p ≠ 0 → (0#8 : BitVec 8).getLsbD (2 * p.val + 0) = false)
    ∧ (∀ p : Position, p ≠ 0 → (quadGet base.view.peers p).state ≠ .fresh) ∧ (phased .capped).phase = .capped
    ∧ { phased .follow with yawSpent := true }.yawSpent = true := by decide
/-- A phase and a cap step that stand in the hand-offs, alone and oldest of their order. -/
theorem witness_PhaseHandoffDrivesValves : base.begun = true
    ∧ { base with handed := [.phaseHandoff .ch1 .hold 0] }.inTurn (.phaseHandoff .ch1 .hold 0) = true
    ∧ { base with handed := [.sagEntry, .phaseHandoff .ch1 .capped 7, .capStepHandoff .ch1 25] }.inTurn
        (.phaseHandoff .ch1 .capped 7) = true
    ∧ { base with handed := [.capStepHandoff .ch1 25] }.inTurn (.capStepHandoff .ch1 25) = true
    ∧ base.driver.mode ∈ [Mode.active, .quiet, .service]
    ∧ (inMode .held base).driver.mode ∈ [Mode.starting, .held, .passive, .latched]
    ∧ Phase.hold ≠ base.driver.chans.ch1.phase ∧ Phase.capped ≠ base.driver.chans.ch1.phase
    ∧ base.driver.chans.ch1.tracking = false ∧ base.driver.chans.ch1.inlet.shortLock = false
    ∧ Phase.inactive = base.driver.chans.ch1.phase := by decide
theorem witness_ModeChangeSettlesValves : base.inTurn (.modeChangeToDriver .held) = true ∧ Mode.held ∈ [Mode.starting, .held, .passive, .latched]
    ∧ Mode.service ∈ [Mode.active, .quiet, .service] ∧ { DriverChan.reset with phase := .test }.phase = .test
    ∧ { DriverChan.reset with phase := .capped, tracking := true }.tracking = true := by decide
theorem witness_ChamberSampleTracksCap : { DriverChan.reset with tracking := true, errorRun := some 0 }.tracking = true
    ∧ 300 < (-301 : Int).natAbs ∧ (-300 : Int).natAbs ≤ 300 ∧ 3000 ≤ ((3000 : Time) - 0).toNat
    ∧ ((2999 : Time) - 0).toNat < 3000 ∧ 300000 ≤ ((300000 : Time) - 0).toNat ∧ 1000000 ≤ ((1000000 : Time) - 0).toNat
    ∧ ((999999 : Time) - 0).toNat < 1000000 ∧ base.driver.chans.ch1.tracking = false := by decide
theorem witness_SolenoidFindingsAreRaised : { Solenoid.reset with on := true }.on = true
    ∧ (if { Solenoid.reset with on := true }.on then decide (149 < 150) else !true) = true
    ∧ (if { Solenoid.reset with on := true }.on then decide (150 < 150) else !true) = false
    ∧ timerDue { Solenoid.reset with openCount := 2, timer := some ⟨0, 10000⟩ }.timer 10000 = true
    ∧ { Solenoid.reset with openCount := 3, openMark := true }.openMark = true
    ∧ (after (.phaseHandoff .ch1 .release 0) base).driver.chans.ch1.inlet.on = true
    ∧ (after (.phaseHandoff .ch1 .release 0) base).driver.chans.ch1.outlet.on = true
    ∧ timerDue (some ⟨0, 10000⟩) 9999 = false := by decide
theorem witness_ReceivedFrameIsDispatched : base.unitsOn = true ∧ base.link.line = .idle
    ∧ (mkFrame 247#8 (List.replicate 14 0)).payload.length ≤ 14 ∧ 6 = (247#8).toNat / 8 % 8
    ∧ (7 : Fin 8).val = (247#8).toNat % 8 ∧ base.link.ownSending = false
    ∧ (inStage .listening base).unitsOn = true ∧ (inStage .listening base).startup.stage = .listening
    ∧ base.startup.stage ≠ .listening ∧ [true, true, true, true, true, true, false].length = 7
    ∧ false ∈ [true, true, true, true, true, true, false] ∧ (List.replicate 8 true).length = 8
    ∧ { base.link with line := .settling 10 9 }.line = .settling 10 9 ∧ 9 < 10 ∧ 1 ≤ 10 ∧ 10 ≤ 10 := by decide
theorem witness_LineAndTransmitterRecover : base.unitsOn = true
    ∧ { base.link with line := .settling 10 0 }.line = .settling 10 0 ∧ 0 + 9 + 1 = 10 ∧ base.link.stuckTaken = false
    ∧ { base.link with tx := .silent }.tx = .silent ∧ timerDue (some ⟨0, 1000000⟩) 1000000 = true
    ∧ base.link.tx ≠ .silent ∧ State.reset.unitsOn = false := by decide
theorem witness_TransmitStartTakesFirstSlot : base.link.tx = .enabled ∧ base.link.line = .idle ∧ base.link.awaitIdle = false
    ∧ State.reset.link.tx ≠ .enabled ∧ State.reset.link.line ≠ .idle ∧ { base.link with awaitIdle := true }.awaitIdle = true
    ∧ base.link.status.inFlight = none ∧ base.link.alert = none ∧ base.link.reply.inFlight = none
    ∧ base.composer.group = [] ∧ base.composer.queue = [] ∧ base.link.status.waiting = none := by decide
set_option maxRecDepth 40000 in
/-- The STATUS of position 0 at urgency 2 sends its first contention bit recessive and its second dominant, the ALERT of
position 2 its seventh recessive; a bit after the contention field; and a reply. -/
theorem witness_LossAndErrorReturnFrame : (frameBits (base.statusFrame base.composed))[0 + 1]? = some true
    ∧ (frameBits (base.statusFrame base.composed))[1 + 1]? = some false ∧ 1 ≤ 2 ∧ 2 ≤ 8
    ∧ 9 < (frameBits (base.statusFrame base.composed)).length ∧ (frameBits (mkFrame 2#8 [1, 160, 39]))[6 + 1]? = some true
    ∧ (frameBits (mkFrame 248#8 [1, 0]))[0 + 1]? = some true ∧ base.link.consecutive < 7 ∧ base.link.alert = none
    ∧ base.link.status.inFlight = none ∧ base.link.reply.inFlight = none
    ∧ { base.link with consecutive := 7 }.consecutive = 7 := by decide
theorem witness_SuccessIsHandedBack :
    { base with link := { base.link with alert := some (mkFrame 0#8 []) } }.framesInFlight = 1
    ∧ { base with link := { base.link with status := ⟨some ⟨base.composed, mkFrame 0#8 []⟩, none⟩ } }.framesInFlight = 1 := by
  decide
theorem witness_StatusIsComposed : timerDue base.composer.timer 10000 = true ∧ base.composer.timer.isSome = true
    ∧ base.inTurn (.quietReportChange true) = true ∧ base.inTurn (.samplePeriodChange true) = true
    ∧ State.reset.composer.timer = none ∧ base.unitsOn = true
    ∧ timerDue base.composer.timer 9999 = false := by decide
theorem witness_AlertSentEmptiesGroup : { base.composer with queue := [⟨.moduleHeld, none, .none, 9⟩] }.queue ≠ []
    ∧ base.link.tx = .enabled ∧ base.link.line = .idle ∧ base.link.awaitIdle = false ∧ base.framesInFlight = 0 := by decide
theorem witness_AlertJoinsQueue : base.begun = true ∧ base.inTurn (.alertHanded .moduleHeld none 9) = true
    ∧ base.arrangement = .split ∧ base.composer.queue.length < 4
    ∧ base.link.stats.alertDrops ≤ 65535 ∧ (joined base).arrangement = .joined := by decide
theorem witness_ReturnedGroupGoesAhead : base.link.stats.alertDrops ≤ 65535
    ∧ (mergeReturned [⟨.moduleHeld, none, .none, 9⟩] []).length ≤ 4
    ∧ 4 < (mergeReturned [⟨.moduleHeld, none, .none, 9⟩] [⟨.lockOnset, some .ch1, .left, 1⟩, ⟨.cycleEnd, some .ch1, .left, 0⟩,
      ⟨.lockOnset, some .ch2, .right, 1⟩, ⟨.cycleEnd, some .ch2, .right, 0⟩]).length := by decide
/-- A valve test running on channel 1. -/
def testing : State :=
  inPhases (phased .test) (phased .inactive) (inMode .service { base with
    service := { base.service with test := .running .ch1 1 .hold } })
theorem witness_ChannelFaultForcesChannel : base.begun = true
    ∧ base.fault.mode ∈ [Mode.starting, .active, .quiet, .service] ∧ Channel.ch2 ≠ .ch1
    ∧ testing.service.test = .running .ch1 1 .hold ∧ (chanGet testing.slip .ch1).phase = .test
    ∧ (chanGet (inPhases (phased .passive) (phased .release) base).slip .ch1).phase = .passive
    ∧ (chanGet (inPhases (phased .passive) (phased .release) base).slip .ch2).phase ≠ .passive
    ∧ base.arrangement = .split ∧ (joined base).arrangement = .joined := by decide
theorem witness_FaultsPromoteAndLatch : base.begun = true ∧ (inMode .held base).fault.mode = .held
    ∧ (inMode .passive base).fault.mode = .passive ∧ (inMode .latched base).fault.mode = .latched
    ∧ (inPhases (phased .test) (phased .inactive) base).slip.ch1.phase = .test
    ∧ base.fault.mode ≠ .passive ∧ base.fault.mode ≠ .latched ∧ testing.fault.mode ≠ .latched
    ∧ (chanGet testing.slip .ch2).phase ≠ .passive ∧ base.fault.record = none ∧ Channel.ch2 ≠ .ch1
    ∧ (ChannelCause.tracking, 8) ∈ [(ChannelCause.speedWire, 1), (.tracking, 8)] := by decide
theorem witness_ReversibleCauseHolds : base.begun = true ∧ base.fault.mode ∈ [Mode.active, .quiet, .service]
    ∧ (inMode .starting base).fault.mode ∉ [Mode.active, .quiet, .service] ∧ base.fault.record = none
    ∧ { HeldSet.mk true false with demandLost := true } = HeldSet.mk true false
    ∧ { HeldSet.mk false true with demandLost := true } ≠ HeldSet.mk false true ∧ base.fault.mode ≠ .latched
    ∧ some latchedRecord ≠ none
    ∧ { HeldSet.mk true true with demandLost := false } ≠ HeldSet.mk false false
    ∧ (inMode .passive base).fault.mode ≠ .held ∧ testing.fault.mode ∈ [Mode.active, .quiet, .service]
    ∧ (inMode .latched base).fault.record = none ∧ latchedRecord.latch = true := by decide
theorem witness_FaultMemoryEvents : base.fault.milliTimer = some ⟨0, 1000⟩ ∧ 1000 ≤ ((1000 : Time) - 0).toNat
    ∧ { base.fault with millis := 4294967295 }.millis ≤ 4294967295
    ∧ timerDue base.fault.milliTimer 999 = false := by decide
theorem witness_HandedModeChanges : base.fault.mode = .active ∧ (inMode .quiet base).fault.mode = .quiet
    ∧ (inMode .service base).fault.mode = .service ∧ (inMode .held base).fault.mode ≠ .active
    ∧ (inMode .held base).fault.mode ≠ .quiet ∧ (inMode .held base).fault.mode ≠ .service ∧ 0 < 1
    ∧ WakeEvent.acceptance .quiet 5 = .acceptance .quiet 5 ∧ WakeEvent.acceptance .active 0 = .acceptance .active 0 := by decide
theorem witness_RequestsAreAnswered : base.responderOn = true ∧ (ServiceReq.mk 3 248#8 0).length = 3
    ∧ (ServiceReq.mk 3 248#8 0).byte0.toNat % 8 = base.position.val
    ∧ (ServiceReq.mk 3 249#8 0).byte0.toNat % 8 ≠ base.position.val ∧ base.service.test = .none
    ∧ base.service.restartMark = false ∧ base.view.vref = 0 ∧ base.pressure.braking = false ∧ 5 < (6#8 : Byte).toNat
    ∧ (braked 300 0 base).pressure.braking = true ∧ (5#8 : Byte).toNat = 5 ∧ 2 < (ServiceReq.mk 3 248#8 3).arg.toNat
    ∧ base.handed.contains .serviceClear = false ∧ base.fault.record = none
    ∧ (inStage .listening base).responderOn = false
    ∧ { base with handed := [.serviceClear] }.handed.contains .serviceClear = true
    ∧ (Cause.channel .speedWire, 1) ∈ [(Cause.channel .speedWire, 1)]
    ∧ { base.fault with record := some latchedRecord }.record = some latchedRecord := by decide
theorem witness_ValveTestAsksAndStarts : base.responderOn = true ∧ base.slip.ch1.phase = .inactive
    ∧ base.slip.ch2.phase = .inactive ∧ base.supply.state = .normal ∧ (1#8 : Byte) = BitVec.ofNat 8 1
    ∧ 2 < (3#8 : Byte).toNat ∧ { base.service with test := .asking .ch1 }.test = .asking .ch1
    ∧ (phased .follow).phase ≠ .inactive ∧ (phased .hold).phase ≠ .inactive ∧ (phased .hold).phase ≠ .passive
    ∧ ¬ ({ base.service with test := .asking .ch2 }.test = .none ∧ base.service.restartMark = false)
    ∧ (base.service.test = .none ∧ base.service.restartMark = false) ∧ base.view.vref = 0
    ∧ ¬ ({ base.view with vref := 1 }.vref = 0) ∧ base.pressure.braking = false ∧ SupplyState.sag ≠ .normal
    ∧ (inPhases (phased .passive) (phased .inactive) base).slip.ch1.phase = .passive
    ∧ base.service.test = .none := by decide
theorem witness_ValveTestRunsAndAborts : { base.service with test := .running .ch1 3 .pass }.test = .running .ch1 3 .pass
    ∧ timerDue (some ⟨0, 300000⟩) 300000 = true ∧ (TestStep.pass, 2) ∈ [(TestStep.hold, 0), (.exhaust, 1), (.pass, 2)]
    ∧ 2 + 1 ≤ 3 ∧ (phased .test).phase = .test ∧ base.inTurn (.abortEvent (.modeChange .held)) = true
    ∧ { base.service with test := .asking .ch2 }.test = .asking .ch2 ∧ base.service.test = .none
    ∧ (phased .passive).phase ≠ .test ∧ timerDue (some ⟨0, 300000⟩) 299999 = false := by decide

end Sys2Proof.Tests
end

namespace Sys2Proof.Machine

/-! ## The settling of an input at a close (R5 to R10) -/

/-- What the settling of an input that is not FAILED can come to, one constructor for each outcome. -/
inductive Settles (i : SpeedInput) : SettledInput → Prop where
  /-- No speed yet: in STANDSTILL, in the start window, or in STARTING without an edge (R5, R6). -/
  | still (h : i.state = .standstill ∨ i.state = .starting ∧ (i.startMark = true ∨ i.edges = 0)) :
      Settles i (settled { i with speed := 0 })
  /-- No edge for too long: back to STANDSTILL (R6, R9). -/
  | fallen (h : i.state = .starting ∨ i.state = .running) (he : i.edges = 0) :
      Settles i (settled { i with speed := 0, state := .standstill, refEdge := none })
  /-- No edge in RUNNING: the speed is bounded (R9). -/
  | bounded (b : Nat) (h : i.state = .running) (he : i.edges = 0) : Settles i (settled { i with speed := min i.speed b })
  /-- A measured speed within the jump limit (R7, R10). -/
  | measured (v : Nat) (hv : v ≤ 16383) (h : i.state = .running) (he : i.edges ≠ 0) :
      Settles i (settled { i with speed := v, jumps := 0 })
  /-- The first measured speed: RUNNING is entered (R6). -/
  | entered (v : Nat) (hv : v ≤ 16383) (h : i.state = .starting) (he : i.edges ≠ 0) :
      Settles i { input := { i with speed := v, state := .running, jumps := 0 }, held := false, entered := true }
  /-- A burst in STARTING (R6, R8). -/
  | burst (h : i.state = .starting) (he : i.edges ≠ 0) : Settles i (discarded { i with speed := 0 })
  /-- A burst or a jump in RUNNING (R8, R10). -/
  | jump (h : i.state = .running) (he : i.edges ≠ 0) : Settles i (discarded i)

theorem measuredSpeed_le (k edges span : Nat) : measuredSpeed k edges span ≤ 16383 := Nat.min_le_left _ _

theorem settleStarting_settles (k : Nat) (t : Time) {i : SpeedInput} (h : i.state = .starting) :
    Settles i (settleStarting k t i) := by
  unfold settleStarting
  split
  · next hm => exact .still (.inr ⟨h, .inl hm⟩)
  split
  · next he =>
    split
    · exact .fallen (.inl h) he
    · exact .still (.inr ⟨h, .inr he⟩)
  next he =>
  split
  · exact .entered _ (measuredSpeed_le _ _ _) h he
  · exact .burst h he

theorem settleRunning_settles (k limit : Nat) (t : Time) {i : SpeedInput} (h : i.state = .running) :
    Settles i (settleRunning k limit t i) := by
  unfold settleRunning
  split
  · next he =>
    split
    · exact .fallen (.inr h) he
    · exact .bounded _ h he
  next he =>
  split
  · unfold jumpCheck
    split
    · exact .jump h he
    · exact .measured _ (measuredSpeed_le _ _ _) h he
  · exact .jump h he

theorem settleInput_settles (k limit : Nat) (t : Time) {i : SpeedInput} (hf : i.state ≠ .failed) :
    Settles i (settleInput k limit t i) := by
  unfold settleInput
  split
  · next h => exact .still (.inl h)
  · next h => exact settleStarting_settles k t h
  · next h => exact settleRunning_settles k limit t h
  · next h => exact absurd h hf

/-- The settling leaves the window, the history and the dead count to the later steps of the close. -/
theorem Settles.keeps {i : SpeedInput} {x : SettledInput} (h : Settles i x) :
    x.input.edges = i.edges ∧ x.input.lastEdge = i.lastEdge ∧ x.input.history = i.history ∧ x.input.dead = i.dead := by
  cases h <;> exact ⟨rfl, rfl, rfl, rfl⟩

theorem Settles.not_failed {i : SpeedInput} {x : SettledInput} (h : Settles i x) : x.input.state ≠ .failed := by
  cases h with
  | still h => rcases h with h | ⟨h, -⟩ <;> simp [settled, h]
  | fallen h he => exact nofun
  | entered v hv h he => exact nofun
  | bounded b h he => simp [settled, h]
  | measured v hv h he => simp [settled, h]
  | burst h he => simp [discarded, h]
  | jump h he => simp [discarded, h]

/-- A sample is held exactly where the jump count rises (R8, R10, R11). -/
theorem Settles.held_iff {i : SpeedInput} {x : SettledInput} (h : Settles i x) :
    x.held = true ↔ i.jumps < x.input.jumps := by
  cases h <;> simp [settled, discarded]

theorem Settles.jumps_le {i : SpeedInput} {x : SettledInput} (h : Settles i x) : x.input.jumps ≤ i.jumps + 1 := by
  cases h <;> simp [settled, discarded]

/-- The settled speed is a measured one, or no more than the speed before (R7, R9). -/
theorem Settles.speed_le {i : SpeedInput} {x : SettledInput} (h : Settles i x) (hi : i.speed ≤ 16383) :
    x.input.speed ≤ 16383 := by
  cases h <;> simp [settled, discarded] <;> omega

/-! ## The law of one input (R1 to R15) -/

/-- A speed input between the settling and the dead check of a close: lawful but for the counts, with a reference edge or
an edge of the window where a rule measures from one. -/
structure SpeedInput.Closing (i : SpeedInput) : Prop where
  speed : i.speed ≤ 16383
  accel : -16383 ≤ i.accel ∧ i.accel ≤ 16383
  history : i.history.inRange
  notFailed : i.state ≠ .failed
  still : i.state ≠ .running → i.speed = 0
  standstill : i.state = .standstill → i.edges = 0 ∧ i.refEdge = none
  lastEdge : i.lastEdge.isSome = true ↔ 0 < i.edges
  refEdge : i.state ≠ .standstill → i.edges = 0 → i.refEdge.isSome = true

theorem updateHistory_accel_history (x : SettledInput) (hs : x.input.speed ≤ 16383) (hh : x.input.history.inRange) :
    (-16383 ≤ (updateHistory x).accel ∧ (updateHistory x).accel ≤ 16383) ∧ (updateHistory x).history.inRange := by
  obtain ⟨h0, h1, h2, h3⟩ := hh
  unfold updateHistory
  split
  · exact ⟨by simp, hs, hs, hs, hs⟩
  · exact ⟨by constructor <;> dsimp only <;> omega, h1, h2, h3, hs⟩

/-- The history step writes only the history and the accel. -/
@[simp] theorem updateHistory_frame (x : SettledInput) :
    (updateHistory x).state = x.input.state ∧ (updateHistory x).speed = x.input.speed
      ∧ (updateHistory x).edges = x.input.edges ∧ (updateHistory x).lastEdge = x.input.lastEdge
      ∧ (updateHistory x).refEdge = x.input.refEdge ∧ (updateHistory x).startMark = x.input.startMark
      ∧ (updateHistory x).jumps = x.input.jumps ∧ (updateHistory x).dead = x.input.dead := by
  unfold updateHistory
  split <;> simp

/-- The state after the settling, by the settled speed: 0 unless RUNNING, no edge and no reference edge in STANDSTILL, and
a reference edge to measure from in an edgeless window otherwise (R3, R5, R6, R9). -/
theorem Settles.state_law {i : SpeedInput} {x : SettledInput} (h : Settles i x) (hi : i.Lawful) :
    (x.input.state ≠ .running → x.input.speed = 0)
      ∧ (x.input.state = .standstill → x.input.edges = 0 ∧ x.input.refEdge = none)
      ∧ (x.input.state ≠ .standstill → x.input.edges = 0 → x.input.refEdge.isSome = true) := by
  have hstill := hi.standstill
  have href := hi.refEdge
  have hstart := hi.startWindow
  cases h with
  | still h =>
    refine ⟨fun _ => rfl, hstill, fun hs he => href (.inr ?_)⟩
    obtain h | ⟨h, -⟩ := h
    · exact absurd h hs
    · refine ⟨h, Bool.eq_false_iff.2 fun hm => ?_⟩
      have : i.edges = 0 := he
      have := hstart hm
      omega
  | fallen _ he => exact ⟨fun _ => rfl, fun _ => ⟨he, rfl⟩, fun hs => absurd rfl hs⟩
  | bounded b h he => exact ⟨fun hs => absurd h hs, hstill, fun _ _ => href (.inl h)⟩
  | measured v _ h he => exact ⟨fun hs => absurd h hs, hstill, fun _ h0 => absurd h0 he⟩
  | entered v _ h he => exact ⟨fun hs => absurd rfl hs, nofun, fun _ h0 => absurd h0 he⟩
  | burst h he => exact ⟨fun _ => rfl, hstill, fun _ h0 => absurd h0 he⟩
  | jump h he => exact ⟨fun hs => absurd h hs, hstill, fun _ h0 => absurd h0 he⟩

/-- The settled input, its history written, is lawful but for its counts. -/
theorem Settles.closing {i : SpeedInput} {x : SettledInput} (h : Settles i x) (hi : i.Lawful) :
    (updateHistory x).Closing := by
  obtain ⟨hedges, hlast, hhist, -⟩ := h.keeps
  have hspeed := h.speed_le hi.speed
  obtain ⟨haccel, hhistory⟩ := updateHistory_accel_history x hspeed (hhist ▸ hi.history)
  obtain ⟨hstill, hstand, href⟩ := h.state_law hi
  have hnf := h.not_failed
  have hwindow : x.input.lastEdge.isSome = true ↔ 0 < x.input.edges := by rw [hlast, hedges]; exact hi.lastEdge
  constructor <;> simpa only [updateHistory_frame] using by assumption

/-! ## The close of one input (R2) -/

section
variable (k limit : Nat) (dead : Bool) (t : Time) (wire : WireReport) (i : SpeedInput)

/-- An input FAILED already only has its window emptied (R15). -/
theorem closeInput_failed (h : i.state = .failed) :
    closeInput k limit dead t wire i = { input := openWindow i, held := false, cause := none } := by
  simp [closeInput, workInput, h]

/-- A wire report of OPEN or SHORT fails the input (R13). -/
theorem closeInput_wire (h : i.state ≠ .failed) (hw : wire ≠ .good) :
    closeInput k limit dead t wire i = { input := openWindow (failInput i), held := false, cause := some .speedWire } := by
  simp [closeInput, workInput, h, hw]

/-- A jump count that reaches 3 fails the input (R11). -/
theorem closeInput_jump {x : SettledInput} (hx : settleInput k limit t i = x) (h : i.state ≠ .failed)
    (hj : 3 ≤ x.input.jumps) :
    closeInput k limit dead t .good i =
      { input := openWindow (failInput { x.input with dead := 0 }), held := false, cause := some .speedJump } := by
  simp [closeInput, workInput, hx, h, hj]

/-- The 400th close in a row at speed 0 while the bus moves fails the input (R14). -/
theorem closeInput_dead {x : SettledInput} (hx : settleInput k limit t i = x) (h : i.state ≠ .failed)
    (hj : x.input.jumps ≤ 2) (hd : dead = true) (hs : x.input.speed = 0) (hc : 399 ≤ i.dead) :
    closeInput k limit dead t .good i =
      { input := openWindow (failInput { x.input with dead := 400 }), held := false, cause := some .speedDead } := by
  have hj' : ¬ 3 ≤ x.input.jumps := by omega
  obtain ⟨-, -, -, hdead⟩ := (settleInput_settles k limit t h).keeps
  rw [hx] at hdead
  simp [closeInput, workInput, deadCheck, hx, h, hj', hd, hs, hdead, hc, failInput]

/-- Any other close counts the dead closes and keeps the input alive (R11, R12, R14). -/
theorem closeInput_alive {x : SettledInput} (hx : settleInput k limit t i = x) (h : i.state ≠ .failed)
    (hj : x.input.jumps ≤ 2) (hc : i.dead < 399 ∨ dead = false ∨ 0 < x.input.speed) :
    closeInput k limit dead t .good i =
      { input := openWindow { updateHistory x with
          dead := if dead = true ∧ x.input.speed = 0 then i.dead + 1 else 0 },
        held := x.held, cause := none } := by
  have hj' : ¬ 3 ≤ x.input.jumps := by omega
  obtain ⟨-, -, -, hdead⟩ := (settleInput_settles k limit t h).keeps
  rw [hx] at hdead
  by_cases hz : dead = true ∧ x.input.speed = 0
  · have hc' : ¬ 399 ≤ i.dead := by
      obtain ⟨hd, hs⟩ := hz
      rcases hc with hc | hc | hc
      · omega
      · simp [hd] at hc
      · omega
    simp [closeInput, workInput, deadCheck, hx, h, hj', hz, hdead, hc']
  · have hz' : (dead && decide (x.input.speed = 0)) = false := by simpa using hz
    simp [closeInput, workInput, deadCheck, hx, h, hj', hz, hz']

/-- What a close of one input can come to, one constructor for each way through R2's steps. -/
inductive Closes : ClosedInput → Prop where
  | failedBefore (h : i.state = .failed) : Closes { input := openWindow i, held := false, cause := none }
  | wireFault (h : i.state ≠ .failed) (hw : wire ≠ .good) :
      Closes { input := openWindow (failInput i), held := false, cause := some .speedWire }
  | jumpFault (x : SettledInput) (hf : i.state ≠ .failed) (h : Settles i x) (hw : wire = .good) (hj : 3 ≤ x.input.jumps) :
      Closes { input := openWindow (failInput { x.input with dead := 0 }), held := false, cause := some .speedJump }
  | deadFault (x : SettledInput) (hf : i.state ≠ .failed) (h : Settles i x) (hw : wire = .good) (hj : x.input.jumps ≤ 2) :
      Closes { input := openWindow (failInput { x.input with dead := 400 }), held := false, cause := some .speedDead }
  | alive (x : SettledInput) (n : Nat) (hf : i.state ≠ .failed) (h : Settles i x) (hw : wire = .good)
      (hj : x.input.jumps ≤ 2) (hn : n ≤ 399) :
      Closes { input := openWindow { updateHistory x with dead := n }, held := x.held, cause := none }

theorem closeInput_closes : Closes wire i (closeInput k limit dead t wire i) := by
  by_cases hf : i.state = .failed
  · rw [closeInput_failed k limit dead t wire i hf]
    exact .failedBefore hf
  by_cases hw : wire = .good
  case neg =>
    rw [closeInput_wire k limit dead t wire i hf hw]
    exact .wireFault hf hw
  subst hw
  have hs := settleInput_settles k limit t hf
  generalize hx : settleInput k limit t i = x at hs
  by_cases hj : 3 ≤ x.input.jumps
  · rw [closeInput_jump k limit dead t i hx hf hj]
    exact .jumpFault x hf hs rfl hj
  have hj2 : x.input.jumps ≤ 2 := by omega
  by_cases hc : i.dead < 399 ∨ dead = false ∨ 0 < x.input.speed
  · rw [closeInput_alive k limit dead t i hx hf hj2 hc]
    refine .alive x _ hf hs rfl hj2 ?_
    split
    · next hz => rcases hc with hc | hc | hc <;> simp_all
    · exact Nat.zero_le _
  · obtain ⟨hc, hd, hz⟩ : 399 ≤ i.dead ∧ dead = true ∧ x.input.speed = 0 := by simpa using hc
    rw [closeInput_dead k limit dead t i hx hf hj2 hd hz hc]
    exact .deadFault x hf hs rfl hj2

end

/-! ## Every close and every edge keeps the law -/

theorem openWindow_lawful {i : SpeedInput} (h : i.Closing) (hj : i.jumps ≤ 2) (hd : i.dead ≤ 399) :
    (openWindow i).Lawful := by
  have hlast := h.lastEdge
  have href := h.refEdge
  have hstand := h.standstill
  have hnf := h.notFailed
  constructor
  case speed => exact h.speed
  case accel => exact h.accel
  case history => exact h.history
  case edges => exact Nat.zero_le _
  case still => exact h.still
  case failed => exact fun hf => absurd hf hnf
  case standstill =>
    intro hs
    obtain ⟨he, hr⟩ := hstand hs
    exact ⟨rfl, by simp [openWindow, he, hr]⟩
  case lastEdge => simp [openWindow]
  case startWindow => simp [openWindow]
  case refEdge =>
    intro hs
    have hs' : i.state ≠ .standstill := by
      intro hst
      simp [openWindow, hst] at hs
    by_cases he : i.edges = 0
    · simpa [openWindow, he] using href hs' he
    · simpa [openWindow, he, hnf] using hlast.2 (Nat.pos_of_ne_zero he)
  case jumps => exact ⟨Nat.le_succ_of_le hj, fun _ => hj⟩
  case dead => exact ⟨Nat.le_succ_of_le hd, fun _ => hd⟩

theorem openWindow_failInput_lawful {i : SpeedInput} (hj : i.jumps ≤ 3) (hd : i.dead ≤ 400) :
    (openWindow (failInput i)).Lawful := by
  constructor <;> simp [openWindow, failInput, History.inRange, hj, hd]

/-- An input FAILED already keeps its law as its window is emptied (R15). -/
theorem openWindow_lawful_of_failed {i : SpeedInput} (h : i.Lawful) (hf : i.state = .failed) : (openWindow i).Lawful := by
  constructor <;> simp [openWindow, History.inRange, hf, h.still, h.failed, h.jumps, h.dead]

theorem closeInput_lawful (k limit : Nat) (dead : Bool) (t : Time) (wire : WireReport) {i : SpeedInput} (hi : i.Lawful) :
    (closeInput k limit dead t wire i).input.Lawful := by
  have hc := closeInput_closes k limit dead t wire i
  generalize closeInput k limit dead t wire i = y at hc ⊢
  cases hc with
  | failedBefore h => exact openWindow_lawful_of_failed hi h
  | wireFault h hw => exact openWindow_failInput_lawful hi.jumps.1 hi.dead.1
  | jumpFault x hf h hw hj =>
    have h2 := hi.jumps.2 hf
    have h1 := h.jumps_le
    exact openWindow_failInput_lawful (by dsimp only; omega) (Nat.zero_le _)
  | deadFault x hf h hw hj => exact openWindow_failInput_lawful (Nat.le_succ_of_le hj) le_rfl
  | alive x n hf h hw hj hn =>
    obtain ⟨h1, h2, h3, h4, h5, h6, h7, h8⟩ := h.closing hi
    exact openWindow_lawful ⟨h1, h2, h3, h4, h5, h6, h7, h8⟩ (by simpa using hj) hn

theorem edgeInput_lawful (t : Time) {i : SpeedInput} (hi : i.Lawful) (hf : i.state ≠ .failed) : (edgeInput t i).Lawful := by
  constructor
  case speed => exact hi.speed
  case accel => exact hi.accel
  case history => exact hi.history
  case edges => exact Nat.min_le_left _ _
  case jumps => exact ⟨hi.jumps.1, fun _ => hi.jumps.2 hf⟩
  case dead => exact ⟨hi.dead.1, fun _ => hi.dead.2 hf⟩
  case lastEdge => simp [edgeInput]
  case startWindow => simp [edgeInput]
  case still =>
    by_cases hs : i.state = .standstill
    · exact fun _ => hi.still (by simp [hs])
    · exact fun h => hi.still (by simpa [edgeInput, hs] using h)
  case refEdge =>
    by_cases hs : i.state = .standstill
    · simp [edgeInput, hs]
    · exact fun h => hi.refEdge (by simpa [edgeInput, hs] using h)
  case failed =>
    intro h
    by_cases hs : i.state = .standstill
    · simp [edgeInput, hs] at h
    · exact absurd h (by simpa [edgeInput, hs] using hf)
  case standstill =>
    intro h
    by_cases hs : i.state = .standstill
    · simp [edgeInput, hs] at h
    · simp [edgeInput, hs] at h

/-! ## What a command can do to the speed inputs -/

/-- What holds before a hand-off and after its effect holds after it, whether it was in turn or not. -/
theorem State.takeInTurn_of {P : State → Prop} {s : State} {c : Instr} {f : State → State} (hs : P s)
    (hf : P (f (s.take c))) : P (s.takeInTurn c f) := by
  rcases s.takeInTurn_cases c f with ⟨_, e⟩ | ⟨_, e⟩
  · rwa [e]
  · rwa [e]

/-- Only a reset, a tooth edge and a window close write a speed input. -/
theorem exec_keeps_inputs {c : Instr} {s t : State} (hreset : isResetCommand c = false)
    (hedge : ∀ m i, c ≠ .toothEdge m i) (hclose : ∀ m w, c ≠ .windowClose m w) (h : exec c s = .next t) :
    t.speed.inputs = s.speed.inputs := by
  cases c
  case toothEdge m i => exact absurd rfl (hedge m i)
  case windowClose m w => exact absurd rfl (hclose m w)
  case powerOnReset | brownOutExpiry | replySuccessNotice | restartTimerExpiry => cases hreset
  all_goals obtain rfl := Host.Outcome.next.inj h
  case readCompletion m bs => unfold State.completeRead; split <;> rfl
  case alertHanded k ch v =>
    refine State.takeInTurn_of (P := fun x => x.speed.inputs = s.speed.inputs) rfl ?_
    split <;> simp
  case samplePeriodChange | lanePhaseCopy | phaseHandoff | capStepHandoff | modeChangeToDriver | quietReportChange
      | abortEvent =>
    exact State.takeInTurn_of (P := fun x => x.speed.inputs = s.speed.inputs) rfl (by simp)
  case faultNotice | causeCleared | endOfStarting | quietEntry | quietExit | serviceEntry | serviceExit =>
    split <;> simp
  all_goals simp

/-- A reset command leaves the speed unit at its reset value or as it was (R18, R178). -/
theorem exec_reset_speed {c : Instr} {s t : State} (hreset : isResetCommand c = true) (h : exec c s = .next t) :
    t.speed = SpeedUnit.reset ∨ t.speed = s.speed := by
  cases c
  case powerOnReset => exact .inl (by rw [← Host.Outcome.next.inj h]; rfl)
  case brownOutExpiry m =>
    obtain rfl := Host.Outcome.next.inj h
    unfold State.brownOut
    split
    · exact .inl rfl
    · exact .inr rfl
  case replySuccessNotice | restartTimerExpiry =>
    obtain rfl := Host.Outcome.next.inj h
    split
    · exact .inl rfl
    · exact .inr rfl
  all_goals cases hreset

/-- An edge writes its own input, and nothing on an input that is FAILED or before the unit is started (R1, R5). -/
theorem State.takeEdge_cases (s : State) (m : Time) (i : Side) :
    s.takeEdge m i = s ∨ (sideGet s.speed.inputs i).state ≠ .failed
      ∧ (s.takeEdge m i).speed.inputs = sideSet s.speed.inputs i (edgeInput m (sideGet s.speed.inputs i)) := by
  unfold State.takeEdge
  split
  · exact .inl rfl
  · next h =>
    obtain ⟨-, hf⟩ : s.unitsOn = true ∧ (sideGet s.speed.inputs i).state ≠ .failed := by simpa using h
    exact .inr ⟨hf, rfl⟩

/-- A close works both inputs, and writes nothing before it is due (R2). -/
theorem State.closeWindow_cases (s : State) (m : Time) (wires : Sides WireReport) :
    s.closeWindow m wires = s
      ∨ ∀ i, sideGet (s.closeWindow m wires).speed.inputs i = (s.closedInput m wires i).input := by
  unfold State.closeWindow
  split
  · exact .inr fun i => by cases i <;> rfl
  · exact .inl rfl

theorem SpeedInput.reset_lawful : SpeedInput.reset.Lawful := by
  constructor <;> simp [SpeedInput.reset, History.inRange]

theorem SpeedUnit.reset_inputs (i : Side) : sideGet SpeedUnit.reset.inputs i = SpeedInput.reset := by cases i <;> rfl

theorem exec_keeps_speedLaw {c : Instr} {s t : State} (hs : s.SpeedLaw) (h : exec c s = .next t) : t.SpeedLaw := by
  intro i
  by_cases hreset : isResetCommand c = true
  · rcases exec_reset_speed hreset h with e | e
    · rw [e, SpeedUnit.reset_inputs]
      exact SpeedInput.reset_lawful
    · rw [e]
      exact hs i
  by_cases hedge : ∃ m j, c = .toothEdge m j
  · obtain ⟨m, j, rfl⟩ := hedge
    obtain rfl := Host.Outcome.next.inj h
    rcases (s.stamp m).takeEdge_cases m j with e | ⟨hf, e⟩
    · rw [e]
      exact hs i
    · rw [e]
      by_cases hij : i = j
      · subst hij
        rw [sideGet_sideSet]
        exact edgeInput_lawful m (hs i) hf
      · rw [sideGet_sideSet_of_ne _ _ hij]
        exact hs i
  by_cases hclose : ∃ m w, c = .windowClose m w
  · obtain ⟨m, w, rfl⟩ := hclose
    obtain rfl := Host.Outcome.next.inj h
    rcases (s.stamp m).closeWindow_cases m w with e | e
    · rw [e]
      exact hs i
    · rw [e]
      exact closeInput_lawful _ _ _ _ _ (hs i)
  · rw [exec_keeps_inputs (by simpa using hreset) (by simpa using hedge) (by simpa using hclose) h]
    exact hs i

/-- Settles O6: every command keeps the law of both inputs, the edge and the close by the law of the one input they work. -/
theorem stepKeepsSpeedLaw : Obligations.StepKeepsSpeedLaw := by
  intro s t hs h
  unfold step at h
  split at h
  · obtain rfl := Host.Outcome.next.inj h
    exact hs
  · refine exec_keeps_speedLaw ?_ h
    exact hs

end Sys2Proof.Machine

namespace Sys2Proof.Machine

/-! ## A PASSIVE channel stays PASSIVE (R88) -/

/-- Every channel PASSIVE before is PASSIVE after. -/
def PassiveKept (s t : State) : Prop :=
  ∀ ch, (chanGet s.slip ch).phase = .passive → (chanGet t.slip ch).phase = .passive

theorem PassiveKept.of_slip {s t : State} (h : t.slip = s.slip) : PassiveKept s t := by
  intro ch hp
  rwa [h]

theorem PassiveKept.trans {s t u : State} (h : PassiveKept s t) (h' : PassiveKept t u) : PassiveKept s u :=
  fun ch hp => h' ch (h ch hp)

/-- What comes after is free to do anything that leaves the channel records as they are. -/
theorem PassiveKept.then_slip {s t u : State} (h : PassiveKept s t) (e : u.slip = t.slip) : PassiveKept s u :=
  h.trans (.of_slip e)

/-- And so is what comes before. -/
theorem PassiveKept.after_slip {s t u : State} (h : PassiveKept t u) (e : t.slip = s.slip) : PassiveKept s u :=
  (of_slip e).trans h

/-- A record replaced in a channel that is not PASSIVE. -/
theorem State.setChannel_keeps_passive {s : State} {c : Channel} (r : ChannelRec)
    (h : (chanGet s.slip c).phase ≠ .passive) : PassiveKept s (s.setChannel c r) := by
  intro ch hp
  by_cases hc : ch = c
  · exact absurd (hc ▸ hp) h
  · rwa [State.setChannel_slip, chanGet_chanSet_of_ne _ _ hc]

theorem State.giveUp_keeps_passive (s : State) (m : Mode) : PassiveKept s (s.giveUp m) :=
  fun ch _ => s.giveUp_phase m ch

theorem State.toPassive_keeps_passive (s : State) (code : Nat) : PassiveKept s (s.toPassive code) :=
  (s.giveUp_keeps_passive _).then_slip rfl

theorem State.toLatched_keeps_passive (s : State) (code : Nat) : PassiveKept s (s.toLatched code) :=
  (s.giveUp_keeps_passive _).then_slip rfl

theorem State.moduleFault_keeps_passive (s : State) (code : Nat) : PassiveKept s (s.moduleFault code) := by
  unfold State.moduleFault
  split
  case h_6 => exact s.toLatched_keeps_passive code
  case h_7 => exact .of_slip rfl
  all_goals exact s.toPassive_keeps_passive code

theorem State.forceWithAlert_keeps_passive (s : State) (cause : ChannelCause) (c : Channel) :
    PassiveKept s (s.forceWithAlert cause c) := by
  unfold State.forceWithAlert
  split
  · exact .of_slip rfl
  · exact PassiveKept.then_slip (s.force_keeps_passive c) rfl

theorem State.channelFault_keeps_passive (s : State) (cause : ChannelCause) (c : Channel) :
    PassiveKept s (s.channelFault cause c) := by
  unfold State.channelFault State.judgeUsable
  split
  · exact .of_slip rfl
  · split
    · exact s.forceWithAlert_keeps_passive cause c
    · exact (s.forceWithAlert_keeps_passive cause c).trans
        ((State.moduleFault_keeps_passive ((s.forceWithAlert cause c).seeCause .allChannels) 13).after_slip rfl)

theorem State.channelLadder_keeps_passive (s : State) (cause : ChannelCause) (c : Channel) :
    PassiveKept s (s.channelLadder cause c) := by
  unfold State.channelLadder
  split
  case h_5 =>
    exact (s.forceWithAlert_keeps_passive cause c).trans
      ((State.toPassive_keeps_passive ((s.forceWithAlert cause c).seeCause .promoted) 14).after_slip rfl)
  case h_6 => exact (State.toLatched_keeps_passive (s.seeCause .promoted) 14).after_slip rfl
  case h_7 => exact .of_slip rfl
  all_goals exact s.channelFault_keeps_passive cause c

theorem State.positionClash_keeps_passive (s : State) : PassiveKept s s.positionClash := by
  unfold State.positionClash
  dsimp only
  split
  · exact .of_slip rfl
  · exact (State.toLatched_keeps_passive (s.hand [moduleAlert .positionClash 12]) 12).after_slip rfl

theorem State.ladder_keeps_passive (s : State) (n : Notice) : PassiveKept s (s.ladder n) := by
  cases n with
  | channelFault cause c marked =>
    cases marked
    · exact s.channelLadder_keeps_passive cause c
    · exact .of_slip rfl
  | configBad => exact s.moduleFault_keeps_passive 11
  | positionClash => exact s.positionClash_keeps_passive
  | reversible c => exact .of_slip (by simp [State.ladder])
  | observation => exact .of_slip rfl

theorem State.takeNotice_keeps_passive (s : State) (n : Notice) : PassiveKept s (s.takeNotice n) :=
  ((State.ladder_keeps_passive (s.seeCause (noticeCause n)) n).after_slip rfl).then_slip (by simp [State.takeNotice])

theorem State.settleWorkingMode_keeps_passive (s : State) : PassiveKept s s.settleWorkingMode := by
  unfold State.settleWorkingMode
  split
  case h_1 =>
    split
    · exact s.toLatched_keeps_passive _
    · split <;> exact .of_slip (by simp)
  case h_2 =>
    split
    · exact s.toLatched_keeps_passive _
    · exact .of_slip rfl
  all_goals exact .of_slip rfl

theorem State.endListen_keeps_passive (s : State) (t : Time) : PassiveKept s (s.endListen t) := by
  unfold State.endListen State.raiseConfigBad
  split
  · split
    · exact (s.takeNotice_keeps_passive .configBad).then_slip (by simp)
    · exact .of_slip (by simp)
  · exact .of_slip rfl

/-- A reference update leaves a PASSIVE channel's record as it is (R70). -/
theorem State.evaluated_of_passive (s : State) (c : Channel) (u : RefUpdate)
    (h : (chanGet s.slip c).phase = .passive) : (s.evaluated c u).record = chanGet s.slip c := by
  unfold State.evaluated
  (repeat' split) <;> simp [evalChannel, silently, h]

theorem State.takeUpdate_keeps_passive (s : State) (u : RefUpdate) : PassiveKept s (s.takeUpdate u) := by
  unfold State.takeUpdate
  split
  · intro ch hp
    cases ch
    · exact (congrArg ChannelRec.phase (s.evaluated_of_passive .ch1 u hp)).trans hp
    · exact (congrArg ChannelRec.phase (s.evaluated_of_passive .ch2 u hp)).trans hp
  · exact .of_slip rfl

theorem State.setPhase_keeps_passive {s : State} {c : Channel} (p : Phase)
    (h : (chanGet s.slip c).phase ≠ .passive) : PassiveKept s (s.setPhase c p) :=
  (State.setChannel_keeps_passive _ h).then_slip rfl

/-- The end of a test frees a channel in TEST only (R195, R196). -/
theorem State.leaveTest_keeps_passive (s : State) (c : Channel) : PassiveKept s (s.leaveTest c) := by
  unfold State.leaveTest
  split
  · next h => exact State.setPhase_keeps_passive _ (by simp [h])
  · exact .of_slip rfl

theorem State.takeAnswer_keeps_passive (s : State) (accepted : Bool) : PassiveKept s (s.takeAnswer accepted) := by
  unfold State.takeAnswer State.startTest
  split
  case h_1 c _ =>
    split
    · split
      · next h =>
          obtain ⟨hinactive, -⟩ := h
          have hp : (chanGet s.slip c).phase ≠ .passive := by simp [hinactive]
          exact (State.setPhase_keeps_passive .test hp).then_slip (by simp)
      · exact .of_slip (by simp)
    · exact .of_slip (by simp)
  all_goals exact .of_slip rfl

theorem State.takeStepExpiry_keeps_passive (s : State) (t : Time) : PassiveKept s (s.takeStepExpiry t) := by
  unfold State.takeStepExpiry State.nextStep State.finishTest
  split
  case h_1 c _ _ _ =>
    split
    · split
      case h_3 =>
        split
        · exact (s.leaveTest_keeps_passive c).then_slip (by simp)
        · exact .of_slip (by simp)
      all_goals exact .of_slip (by simp)
    · exact .of_slip rfl
  all_goals exact .of_slip rfl

theorem State.takeAbort_keeps_passive (s : State) (a : AbortEvent) : PassiveKept s (s.takeAbort a) := by
  unfold State.takeAbort State.abortTest
  split
  case h_1 c _ _ _ =>
    have h : PassiveKept s (if abortFreesChannel a then s.leaveTest c else s) := by
      split
      · exact s.leaveTest_keeps_passive c
      · exact .of_slip rfl
    refine h.then_slip ?_
    dsimp only
    split <;> simp
  all_goals exact .of_slip rfl

theorem exec_keeps_passive {c : Instr} {s t : State} (hreset : isResetCommand c = false) (h : exec c s = .next t) :
    PassiveKept s t := by
  cases c
  case powerOnReset | brownOutExpiry | replySuccessNotice | restartTimerExpiry => cases hreset
  all_goals obtain rfl := Host.Outcome.next.inj h
  case faultNotice n =>
    split
    · exact (State.takeNotice_keeps_passive (s.take (.faultNotice n)) n).after_slip rfl
    · exact .of_slip rfl
  case endOfStarting =>
    split
    · exact (State.settleWorkingMode_keeps_passive (s.take .endOfStarting)).after_slip rfl
    · exact .of_slip rfl
  case listenExpiry m => exact (State.endListen_keeps_passive (s.stamp m) m).after_slip rfl
  case referenceUpdate u =>
    exact (State.takeUpdate_keeps_passive (s.take (.referenceUpdate u)) u).after_slip rfl
  case serviceAnswer a =>
    exact (State.takeAnswer_keeps_passive (s.take (.serviceAnswer a)) a).after_slip rfl
  case stepTimerExpiry m =>
    exact (State.takeStepExpiry_keeps_passive (s.stamp m) m).after_slip rfl
  case abortEvent a =>
    refine State.takeInTurn_of (P := PassiveKept s) (.of_slip rfl) ?_
    exact (State.takeAbort_keeps_passive (s.take (.abortEvent a)) a).after_slip rfl
  all_goals refine .of_slip ?_
  case alertHanded k ch v =>
    refine State.takeInTurn_of (P := fun x => x.slip = s.slip) rfl ?_
    split <;> simp
  case samplePeriodChange | lanePhaseCopy | phaseHandoff | capStepHandoff | modeChangeToDriver | quietReportChange =>
    exact State.takeInTurn_of (P := fun x => x.slip = s.slip) rfl (by simp)
  case causeCleared | quietEntry | quietExit | serviceEntry | serviceExit => split <;> simp
  all_goals simp

/-! ## A short lock stays set (R106) -/

/-- Every solenoid of a channel short-locked before is short-locked after. -/
def DriverChan.ShortsKept (c d : DriverChan) : Prop :=
  ∀ v, (solenoid c v).shortLock = true → (solenoid d v).shortLock = true

/-- A pattern applied drives the solenoids and leaves their short locks (R93, R106). -/
@[simp] theorem applyPattern_shortLock (live : Bool) (t : Time) (p : Pattern) (c : DriverChan) (v : Valve) :
    (solenoid (applyPattern live t p c) v).shortLock = (solenoid c v).shortLock := by
  cases v <;> simp [applyPattern, solenoid]

/-- A change of a channel that leaves both solenoids as they are leaves their short locks. -/
theorem DriverChan.shortsKept_of_solenoids {c d : DriverChan} (hi : d.inlet = c.inlet) (ho : d.outlet = c.outlet) :
    c.ShortsKept d := by
  intro v h
  cases v
  · exact (congrArg Solenoid.shortLock hi).trans h
  · exact (congrArg Solenoid.shortLock ho).trans h

theorem DriverChan.ShortsKept.trans {c d e : DriverChan} (h : c.ShortsKept d) (h' : d.ShortsKept e) : c.ShortsKept e :=
  fun v hv => h' v (h v hv)

theorem applyPattern_keeps_shorts (live : Bool) (t : Time) (p : Pattern) (c : DriverChan) :
    c.ShortsKept (applyPattern live t p c) :=
  fun v h => (applyPattern_shortLock live t p c v).trans h

theorem settlePattern_keeps_shorts (live : Bool) (m : Mode) (t : Time) (c : DriverChan) :
    c.ShortsKept (settlePattern live m t c) := by
  unfold settlePattern
  split
  · exact DriverChan.ShortsKept.trans (d := endEpisode c) (DriverChan.shortsKept_of_solenoids rfl rfl)
      (applyPattern_keeps_shorts _ _ _ _)
  · split <;> exact DriverChan.shortsKept_of_solenoids rfl rfl

theorem takePhase_keeps_shorts (live : Bool) (m : Mode) (t : Time) (p : Phase) (cap : Nat) (c : DriverChan) :
    c.ShortsKept (takePhase live m t p cap c) := by
  unfold takePhase
  split
  · exact DriverChan.shortsKept_of_solenoids rfl rfl
  · refine DriverChan.ShortsKept.trans ?_ (settlePattern_keeps_shorts _ _ _ _)
    split <;> exact DriverChan.shortsKept_of_solenoids rfl rfl

theorem applyChoice_keeps_shorts (live : Bool) (t : Time) (p : Pattern) (c : DriverChan) :
    c.ShortsKept (applyChoice live t p c) := by
  unfold applyChoice
  split
  · exact fun _ h => h
  · split
    · exact (applyPattern_keeps_shorts live t p c).trans (DriverChan.shortsKept_of_solenoids rfl rfl)
    · exact fun _ h => h

theorem integrate_solenoids (ki : Nat) (e : Int) (c : DriverChan) :
    (integrate ki e c).inlet = c.inlet ∧ (integrate ki e c).outlet = c.outlet := by
  unfold integrate
  dsimp only
  (repeat' split) <;> exact ⟨rfl, rfl⟩

theorem trackSample_keeps_shorts (q : Params) (live low : Bool) (t : Time) (pc pd : Nat) (c : DriverChan) :
    c.ShortsKept (trackSample q live low t pc pd c) := by
  obtain ⟨hi, ho⟩ := integrate_solenoids q.ki ((min c.cap pd : Nat) - (pc : Int)) c
  exact (DriverChan.shortsKept_of_solenoids hi ho).trans
    ((applyChoice_keeps_shorts _ _ _ _).trans (DriverChan.shortsKept_of_solenoids rfl rfl))

theorem sagChannel_keeps_shorts (live : Bool) (t : Time) (c : DriverChan) : c.ShortsKept (sagChannel live t c) := by
  unfold sagChannel
  split
  · exact (applyPattern_keeps_shorts live t .hold c).trans (DriverChan.shortsKept_of_solenoids rfl rfl)
  · exact fun _ h => h

theorem shortChannel_keeps_shorts (t : Time) (v : Valve) (c : DriverChan) : c.ShortsKept (shortChannel t v c) := by
  intro w h
  match v, w with
  | .inlet, .inlet => rfl
  | .outlet, .outlet => rfl
  | .inlet, .outlet => simpa [shortChannel, solenoid] using h
  | .outlet, .inlet => exact h

/-- A check writes one solenoid and not its short lock (R107, R108). -/
theorem setSolenoid_keeps_shorts (c : DriverChan) (v : Valve) (x : Solenoid)
    (hx : (solenoid c v).shortLock = true → x.shortLock = true) : c.ShortsKept (setSolenoid c v x) := by
  intro w h
  match v, w with
  | .inlet, .inlet => exact hx h
  | .outlet, .outlet => exact hx h
  | .inlet, .outlet => exact h
  | .outlet, .inlet => exact h

theorem startChecks_keeps_shorts (live : Bool) (t : Time) (c : DriverChan) : c.ShortsKept (startChecks live t c) := by
  intro v h
  cases live <;> cases v <;> exact h

/-- Every solenoid of the station short-locked before is short-locked after. -/
def ShortsKept (s t : State) : Prop := ∀ ch, (chanGet s.driver.chans ch).ShortsKept (chanGet t.driver.chans ch)

theorem ShortsKept.of_driver {s t : State} (h : t.driver = s.driver) : ShortsKept s t := by
  intro ch v hv
  rwa [h]

theorem State.setDriverChan_keeps_shorts {s : State} {c : Channel} {d : DriverChan} (h : (s.driverChan c).ShortsKept d) :
    ShortsKept s (s.setDriverChan c d) := by
  intro ch
  rw [State.setDriverChan_driver]
  by_cases hc : ch = c
  · subst hc
    rw [chanGet_chanSet]
    exact h
  · rw [chanGet_chanSet_of_ne _ _ hc]
    exact fun _ hv => hv

theorem State.drivePhase_keeps_shorts (s : State) (c : Channel) (p : Phase) (cap : Nat) :
    ShortsKept s (s.drivePhase c p cap) := by
  unfold State.drivePhase
  split
  · exact State.setDriverChan_keeps_shorts (takePhase_keeps_shorts _ _ _ _ _ _)
  · exact .of_driver rfl

theorem State.driveMode_keeps_shorts (s : State) (m : Mode) : ShortsKept s (s.driveMode m) := by
  intro ch
  cases ch <;> exact settlePattern_keeps_shorts _ _ _ _

theorem State.driveSample_keeps_shorts (s : State) (c : Channel) (pc : Nat) (sensor : SensorState) (pd : Nat) :
    ShortsKept s (s.driveSample c pc sensor pd) := by
  unfold State.driveSample
  dsimp only
  split
  · split
    · exact State.setDriverChan_keeps_shorts
        ((trackSample_keeps_shorts _ _ _ _ _ _ _).trans (DriverChan.shortsKept_of_solenoids rfl rfl))
    · exact State.setDriverChan_keeps_shorts (trackSample_keeps_shorts _ _ _ _ _ _ _)
  · exact .of_driver rfl

theorem State.driveSag_keeps_shorts (s : State) : ShortsKept s s.driveSag := by
  intro ch
  cases ch <;> exact sagChannel_keeps_shorts _ _ _

theorem State.driveTest_keeps_shorts (s : State) (c : Channel) (p : Pattern) : ShortsKept s (s.driveTest c p) := by
  refine State.setDriverChan_keeps_shorts ?_
  split
  · exact DriverChan.ShortsKept.trans (d := { s.driverChan c with testPattern := p })
      (DriverChan.shortsKept_of_solenoids rfl rfl) (settlePattern_keeps_shorts _ _ _ _)
  · exact DriverChan.shortsKept_of_solenoids rfl rfl

theorem State.takeOverCurrent_keeps_shorts (s : State) (t : Time) (c : Channel) (v : Valve) :
    ShortsKept s (s.takeOverCurrent t c v) := by
  unfold State.takeOverCurrent
  split
  · exact State.setDriverChan_keeps_shorts (shortChannel_keeps_shorts _ _ _)
  · exact .of_driver rfl

theorem State.takeCheck_keeps_shorts (s : State) (t : Time) (c : Channel) (v : Valve) (milliamps : Nat)
    (loadFound : Bool) : ShortsKept s (s.takeCheck t c v milliamps loadFound) := by
  unfold State.takeCheck
  dsimp only
  split
  · split <;> exact State.setDriverChan_keeps_shorts (setSolenoid_keeps_shorts _ _ _ fun h => h)
  · exact .of_driver rfl

/-- The read completion starts the check timers of both channels (R112, R184). -/
theorem State.completeRead_driver {s : State} (h : s.startup.stage = .reading) (t : Time) (bs : List Byte) :
    (s.completeRead t bs).driver = { s.driver with
      chans := ⟨startChecks (s.live .ch1) t s.driver.chans.ch1, startChecks (s.live .ch2) t s.driver.chans.ch2⟩ } := by
  rw [State.completeRead, if_pos h]
  rfl

theorem State.completeRead_keeps_shorts (s : State) (t : Time) (bs : List Byte) : ShortsKept s (s.completeRead t bs) := by
  by_cases h : s.startup.stage = .reading
  · intro ch
    rw [State.completeRead_driver h]
    cases ch
    · exact startChecks_keeps_shorts (s.live .ch1) t s.driver.chans.ch1
    · exact startChecks_keeps_shorts (s.live .ch2) t s.driver.chans.ch2
  · exact .of_driver (by rw [State.completeRead, if_neg h])

theorem exec_keeps_shorts {c : Instr} {s t : State} (hreset : isResetCommand c = false) (h : exec c s = .next t) :
    ShortsKept s t := by
  cases c
  case powerOnReset | brownOutExpiry | replySuccessNotice | restartTimerExpiry => cases hreset
  all_goals obtain rfl := Host.Outcome.next.inj h
  case phaseHandoff c p cap =>
    exact State.takeInTurn_of (P := ShortsKept s) (.of_driver rfl)
      (State.drivePhase_keeps_shorts (s.take (.phaseHandoff c p cap)) c p cap)
  case capStepHandoff c cap =>
    exact State.takeInTurn_of (P := ShortsKept s) (.of_driver rfl)
      (State.setDriverChan_keeps_shorts (s := s.take (.capStepHandoff c cap)) (DriverChan.shortsKept_of_solenoids rfl rfl))
  case modeChangeToDriver m =>
    exact State.takeInTurn_of (P := ShortsKept s) (.of_driver rfl)
      (State.driveMode_keeps_shorts (s.take (.modeChangeToDriver m)) m)
  case chamberSample c pc sensor pd =>
    exact State.driveSample_keeps_shorts (s.take (.chamberSample c pc sensor pd)) c pc sensor pd
  case sagEntry => exact State.driveSag_keeps_shorts (s.take .sagEntry)
  case testStep c p => exact State.driveTest_keeps_shorts (s.take (.testStep c p)) c p
  case overCurrent m c v => exact State.takeOverCurrent_keeps_shorts (s.stamp m) m c v
  case checkTimerExpiry m c v i l => exact State.takeCheck_keeps_shorts (s.stamp m) m c v i l
  case readCompletion m bs => exact State.completeRead_keeps_shorts (s.stamp m) m bs
  all_goals refine .of_driver ?_
  case alertHanded k ch v =>
    refine State.takeInTurn_of (P := fun x => x.driver = s.driver) rfl ?_
    split <;> simp
  case samplePeriodChange | lanePhaseCopy | quietReportChange | abortEvent =>
    exact State.takeInTurn_of (P := fun x => x.driver = s.driver) rfl (by simp)
  case faultNotice | causeCleared | endOfStarting | quietEntry | quietExit | serviceEntry | serviceExit =>
    split <;> simp
  all_goals simp

/-! ## A FAILED input stays FAILED (R15) -/

theorem closeInput_state_of_failed (k limit : Nat) (dead : Bool) (t : Time) (wire : WireReport) {i : SpeedInput}
    (h : i.state = .failed) : (closeInput k limit dead t wire i).input.state = .failed := by
  rw [closeInput_failed k limit dead t wire i h]
  exact h

theorem exec_keeps_failed {c : Instr} {s t : State} (hreset : isResetCommand c = false) (h : exec c s = .next t) (i : Side)
    (hf : (sideGet s.speed.inputs i).state = .failed) : (sideGet t.speed.inputs i).state = .failed := by
  by_cases hedge : ∃ m j, c = .toothEdge m j
  · obtain ⟨m, j, rfl⟩ := hedge
    obtain rfl := Host.Outcome.next.inj h
    rcases (s.stamp m).takeEdge_cases m j with e | ⟨hj, e⟩
    · rw [e]
      exact hf
    · have hij : i ≠ j := by
        rintro rfl
        exact hj hf
      rw [e, sideGet_sideSet_of_ne _ _ hij]
      exact hf
  by_cases hclose : ∃ m w, c = .windowClose m w
  · obtain ⟨m, w, rfl⟩ := hclose
    obtain rfl := Host.Outcome.next.inj h
    rcases (s.stamp m).closeWindow_cases m w with e | e
    · rw [e]
      exact hf
    · rw [e]
      exact closeInput_state_of_failed _ _ _ _ _ hf
  · rwa [exec_keeps_inputs hreset (by simpa using hedge) (by simpa using hclose) h]

/-- Settles O9: each of the three marks of giving up is kept by every command that is no reset. -/
theorem givenUpStaysGivenUp : Obligations.GivenUpStaysGivenUp :=
  fun _ _ _ hreset h => ⟨exec_keeps_passive hreset h, exec_keeps_failed hreset h, exec_keeps_shorts hreset h⟩

end Sys2Proof.Machine

namespace Sys2Proof.Machine

/-! ## The reset state (R18, R34, R62, R63, R112, R131, R144, R166, R173, R177, R179, R188) -/

/-- A power-on reset leaves every block at its reset value, whatever the queue and the count of free values (log entry 2). -/
theorem State.powerOn_resetValues (s : State) : s.powerOn.ResetValues := by
  constructor
  case speed => intro i; cases i <;> rfl
  case chambers => intro c; cases c <;> rfl
  case peers =>
    intro p
    rcases quad_cases p with rfl | rfl | rfl | rfl <;>
      exact ⟨rfl, rfl, rfl, rfl, fun i => by cases i <;> rfl⟩
  case lanes =>
    intro p i
    rcases quad_cases p with rfl | rfl | rfl | rfl <;> cases i <;> rfl
  case slip => intro c; cases c <;> rfl
  case driver => intro c; cases c <;> simp [State.powerOn, State.reset, Driver.reset, DriverChan.reset, chanGet]
  case solenoids => intro c v; cases c <;> cases v <;> rfl
  all_goals simp [State.powerOn, State.reset, PressureUnit.reset, Sensor.reset, ViewUnit.reset, Link.reset,
    LinkStats.zero, SpeedUnit.reset, Supply.reset, FaultUnit.reset, Composer.reset, StartUp.reset, Service.reset]

/-- Settles O13: the power-on reset and the state after reset by the same reset values. -/
theorem powerOnResetLeavesResetValues : Obligations.PowerOnResetLeavesResetValues :=
  ⟨fun s => ⟨s.powerOn, rfl, s.powerOn_resetValues, rfl, rfl, rfl, rfl, rfl, rfl⟩,
    State.reset.powerOn_resetValues, rfl, rfl, rfl⟩

/-- A channel at its reset value is lawful: PASS with both solenoids off (R93, R112). -/
theorem DriverChan.reset_lawful (live : Bool) : DriverChan.reset.lawful live .starting := by
  refine ⟨?_, ?_, ?_, ?_, ?_, ?_, ?_, ?_⟩
  case refine_5 =>
    intro p hp
    exact ⟨Option.some.inj hp, rfl⟩
  case refine_6 => exact nofun
  all_goals simp [DriverChan.reset, inletOn, outletOn, Solenoid.lawful, Solenoid.reset, integratorMin, integratorMax]

theorem State.reset_driveLaw : State.reset.DriveLaw := by
  constructor
  · intro c
    cases c
    · exact DriverChan.reset_lawful _
    · exact DriverChan.reset_lawful _
  · intro _ c
    cases c <;> rfl

theorem State.reset_faultLaw : State.reset.FaultLaw where
  gaveUp := by simp [State.reset, FaultUnit.reset]
  latched := by simp [State.reset, FaultUnit.reset]
  recordSeen := by simp [State.reset, FaultUnit.reset]
  held := trivial
  millis := by simp [State.reset, FaultUnit.reset]

theorem State.reset_linkLaw : State.reset.LinkLaw := by
  constructor <;> simp [State.reset, Composer.reset, State.framesInFlight, Link.reset, LinkStats.zero]

theorem State.reset_speedLaw : State.reset.SpeedLaw := by
  intro i
  rw [show State.reset.speed = SpeedUnit.reset from rfl, SpeedUnit.reset_inputs]
  exact SpeedInput.reset_lawful

theorem Sensor.reset_inRange : Sensor.reset.inRange := by simp [Sensor.reset, Sensor.inRange]

theorem Lane.absent_inRange {bound : Int} (h : 0 ≤ bound) : Lane.absent.inRange bound :=
  ⟨nofun, by simp only [Lane.absent]; omega, h⟩

theorem PeerEntry.reset_lawful : PeerEntry.reset.Lawful where
  vref := Nat.zero_le _
  pressures := ⟨nofun, nofun⟩
  lanes i := by cases i <;> exact Lane.absent_inRange (by decide)
  heard := by simp [PeerEntry.reset]
  gone _ := ⟨rfl, rfl, fun i => by cases i <;> rfl⟩

theorem ChannelRec.reset_lawful (q : Params) : ChannelRec.reset.Lawful q := by
  constructor <;> simp [ChannelRec.reset, isTracked]

theorem State.reset_rangeLaw : State.reset.RangeLaw where
  params := nofun
  sensors := ⟨Sensor.reset_inRange, Sensor.reset_inRange, fun c => by cases c <;> exact Sensor.reset_inRange⟩
  pd := Nat.zero_le _
  peers p := by rcases quad_cases p with rfl | rfl | rfl | rfl <;> exact PeerEntry.reset_lawful
  noEntry p _ := by rcases quad_cases p with rfl | rfl | rfl | rfl <;> rfl
  vector p i := by
    rcases quad_cases p with rfl | rfl | rfl | rfl <;> cases i <;> exact Lane.absent_inRange (by decide)
  vref := ⟨Nat.zero_le _, Nat.zero_le _⟩
  channels c := by cases c <;> exact ChannelRec.reset_lawful _
  notStarted _ c := by cases c <;> exact ⟨rfl, rfl, rfl, nofun⟩

/-- Settles O8. -/
theorem resetKeepsLaws : Obligations.ResetKeepsLaws :=
  ⟨State.reset_driveLaw, State.reset_faultLaw, State.reset_linkLaw, State.reset_speedLaw, State.reset_rangeLaw⟩

/-! ## START_SEQUENCE (R178, R180) -/

/-- The straps give the position 2 × POS1 + POS0 (R180). -/
theorem strapPosition_eq {x : Straps} {p : Position} (h : p.val = 2 * x.pos1.toNat + x.pos0.toNat) :
    strapPosition x = p := by
  apply Fin.ext
  rw [h]
  unfold strapPosition
  split <;> simp [*]

/-- At any other stage the start sequence is void (log entry 7). -/
theorem State.beginStart_void {s : State} (x : Straps) (h : s.startup.stage ≠ .heldInReset) : s.beginStart x = s :=
  if_neg h

/-! ## READ_COMPLETION (R4, R112, R182 to R184, R187) -/

/-- At any other stage the read completion is void (log entry 7). -/
theorem State.completeRead_void {s : State} (t : Time) (bs : List Byte) (h : s.startup.stage ≠ .reading) :
    s.completeRead t bs = s :=
  if_neg h

/-- The read completion writes the start-up unit and starts the speed unit, the pressure unit and the driver (R184). -/
theorem State.completeRead_reading {s : State} (t : Time) (bs : List Byte) (h : s.startup.stage = .reading) :
    s.completeRead t bs = { s with startup := s.readStartUp t bs }.startUnits t :=
  if_pos h

/-- The check timers of a channel's solenoids at the start, each running unless the solenoid is short-locked (R107, R112). -/
theorem startChecks_live (t : Time) (d : DriverChan) :
    startChecks true t d = { d with
      inlet := { d.inlet with timer := if d.inlet.shortLock then none else some ⟨t, 10000⟩ }
      outlet := { d.outlet with timer := if d.outlet.shortLock then none else some ⟨t, 10000⟩ } } := rfl

/-- Both solenoids of a channel the arrangement uses are live: channel 2 in SPLIT only (R93). -/
theorem State.live_of_used {s : State} {c : Channel} (h : s.arrangement = .split ∨ c = .ch1) : s.live c = true := by
  rcases h with h | rfl
  · cases c <;> simp [State.live, usesChannel, h]
  · cases s.arrangement <;> rfl

theorem State.live_of_joined {s : State} (h : s.arrangement = .joined) : s.live .ch2 = false := by
  simp [State.live, usesChannel, h]

/-- The block is judged bad by its version, by its check, or by the position against the settled station count (R182). -/
theorem blockAccepted_eq_false {bs : List Byte} {p : Position}
    (h : byteAt bs 0 ≠ 1#8 ∨ (crcBits (bytesBits (bs.take 62))).toNat ≠ bytesNat bs 62 2
      ∨ (settleParams (storedParams bs)).stations ≤ p.val) : blockAccepted bs p = false := by
  rcases h with h | h | h <;> simp [blockAccepted, blockGood, h]

theorem blockAccepted_eq_true {bs : List Byte} {p : Position} (hversion : byteAt bs 0 = 1#8)
    (hcheck : (crcBits (bytesBits (bs.take 62))).toNat = bytesNat bs 62 2)
    (hposition : p.val < (settleParams (storedParams bs)).stations) : blockAccepted bs p = true := by
  simp [blockAccepted, blockGood, hversion, hcheck, hposition]

/-- A block not accepted gives the defaults, the config-bad mark and the default speed constants (R4, R187). -/
theorem State.readStartUp_bad {s : State} (t : Time) {bs : List Byte} (h : blockAccepted bs s.position = false) :
    (s.readStartUp t bs).params = some defaultParams ∧ (s.readStartUp t bs).configBad = true
      ∧ (s.readStartUp t bs).clamped = false ∧ (s.readStartUp t bs).constants = some ⟨9043200, 9043200⟩ := by
  have hk : speedConstants defaultParams = ⟨9043200, 9043200⟩ := by decide
  simp [State.readStartUp, paramsInForce, clampedFlag, h, hk]

/-- A block accepted gives the settled parameters and the speed constants of these (R4, R182, R183). -/
theorem State.readStartUp_good {s : State} (t : Time) {bs : List Byte} (h : blockAccepted bs s.position = true) :
    (s.readStartUp t bs).params = some (settleParams (storedParams bs)) ∧ (s.readStartUp t bs).configBad = false
      ∧ (s.readStartUp t bs).clamped = decide (settleParams (storedParams bs) ≠ storedParams bs)
      ∧ (s.readStartUp t bs).constants = some (speedConstants (settleParams (storedParams bs))) := by
  simp [State.readStartUp, paramsInForce, clampedFlag, h]

/-! ## The parameter block (section 12.5) -/

/-- A byte of the block, by the number it holds. -/
theorem byteAt_eq {bs : List Byte} {i n : Nat} (h : bs[i]? = some (BitVec.ofNat 8 n)) : byteAt bs i = BitVec.ofNat 8 n := by
  simp [byteAt, List.getD_eq_getElem?_getD, h]

theorem byteAt_toNat {bs : List Byte} {i n : Nat} (h : bs[i]? = some (BitVec.ofNat 8 n) ∧ n < 256) :
    (byteAt bs i).toNat = n := by
  rw [byteAt_eq h.1, BitVec.toNat_ofNat, Nat.mod_eq_of_lt h.2]

theorem bytesNat_one (bs : List Byte) (i : Nat) : bytesNat bs i 1 = (byteAt bs i).toNat := by
  simp [bytesNat]

/-- Two bytes hold a number, the most significant first. -/
theorem bytesNat_two (bs : List Byte) (i : Nat) :
    bytesNat bs i 2 = 256 * (byteAt bs i).toNat + (byteAt bs (i + 1)).toNat := by
  simp [bytesNat, List.range_succ]

/-- The parameters stored in a block of 64 bytes that hold the numbers `b`, with `two i` the number at bytes i and i + 1. -/
theorem storedParams_eq {b two : Nat → Nat} {bs : List Byte}
    (hb : ∀ i, i < 64 → bs[i]? = some (BitVec.ofNat 8 (b i)) ∧ b i < 256)
    (htwo : ∀ i, two i = 256 * b i + b (i + 1)) :
    bytesNat bs 62 2 = two 62 ∧ storedParams bs = {
      stations := b 1, freeRolling := BitVec.ofNat 4 (b 2), teeth := b 3, circLeft := two 4, circRight := two 6,
      jumpLimit := two 8, dramp := b 10, aramp := b 11, tolerance := two 12, slipAbs := two 14, slipRel := b 16,
      a1 := b 17, a2 := b 18, a3 := two 19, vEntry := two 21, vMin := two 23, pOn := two 25, pOff := two 27,
      deltaP := two 29, stepPeriod := b 31, tRelMax := b 32, yawMargin := two 33, yawStep := b 35, pEcon := two 36,
      kp := b 38, ki := b 39, uOn := two 40, offsets := ⟨two 42, two 44, two 46, two 48⟩,
      gains := ⟨two 50, two 52, two 54, two 56⟩ } := by
  have hone : ∀ i, i < 64 → bytesNat bs i 1 = b i := fun i hi => by rw [bytesNat_one, byteAt_toNat (hb i hi)]
  have hpair : ∀ i, i < 63 → bytesNat bs i 2 = two i := fun i hi => by
    rw [bytesNat_two, byteAt_toNat (hb i (by omega)), byteAt_toNat (hb (i + 1) (by omega)), htwo]
  simp [storedParams, perSensorAt, hone, hpair, byteAt_toNat (hb 2 (by decide))]

/-- Settles O16: the start sequence by its straps, the read completion by the judgement of the block, and the stored
parameters by the bytes of the block. -/
theorem startSequenceAndReadCompletion : Obligations.StartSequenceAndReadCompletion := by
  refine ⟨?_, ?_, ?_, ?_⟩
  · intro x p s hstage hp
    rw [← strapPosition_eq hp]
    exact congrArg Host.Outcome.next (if_pos hstage)
  · intro m x bs s
    exact ⟨fun h => congrArg Host.Outcome.next (s.beginStart_void x h),
      fun h => congrArg Host.Outcome.next ((s.stamp m).completeRead_void m bs h)⟩
  · intro m bs p s hstage hp
    have hposition : (s.stamp m).position = p := by simp [State.position, hp]
    have hrun := (s.stamp m).completeRead_reading m bs hstage
    have hdriver := State.completeRead_driver (s := s.stamp m) hstage m bs
    rw [hrun] at hdriver
    refine ⟨_, congrArg Host.Outcome.next hrun, rfl, rfl, rfl, rfl, rfl, ?_, ?_, hp, rfl, ?_, ?_⟩
    · rintro ch d rfl hused
      have hlive : (s.stamp m).live ch = true := State.live_of_used hused
      rw [hdriver, ← startChecks_live, ← hlive]
      cases ch <;> rfl
    · intro hj
      have hlive : (s.stamp m).live .ch2 = false := State.live_of_joined hj
      rw [hdriver, hlive]
      rfl
    · intro hbad
      exact State.readStartUp_bad m (by rw [hposition]; exact blockAccepted_eq_false hbad)
    · intro hversion hcheck hbelow
      exact State.readStartUp_good m (by rw [hposition]; exact blockAccepted_eq_true hversion hcheck hbelow)
  · intro b two bs hb htwo
    exact ⟨byteAt_eq (hb 0 (by decide)).1, storedParams_eq hb htwo⟩

end Sys2Proof.Machine

namespace Sys2Proof.Machine

/-! ## TOOTH_EDGE (R1, R5) -/

theorem State.takeEdge_counted {s : State} (m : Time) {i : Side} (hon : s.unitsOn = true)
    (hf : (sideGet s.speed.inputs i).state ≠ .failed) : s.takeEdge m i =
      { s with speed := { s.speed with inputs := sideSet s.speed.inputs i (edgeInput m (sideGet s.speed.inputs i)) } }.hand
        [.wakeEvent (.edge i), .abortEvent (.edge i)] := by
  simp [State.takeEdge, hon, hf]

theorem State.takeEdge_ignored {s : State} (m : Time) {i : Side}
    (h : s.unitsOn = false ∨ (sideGet s.speed.inputs i).state = .failed) : s.takeEdge m i = s := by
  rcases h with h | h <;> simp [State.takeEdge, h]

/-- An edge by the state that takes it: STANDSTILL becomes STARTING in its start window, any other state stands (R1, R5). -/
theorem edgeInput_eq (m : Time) (i : SpeedInput) {state : InputState}
    (hstart : i.state = .standstill → state = .starting) (hstand : i.state ≠ .standstill → state = i.state) :
    edgeInput m i = { i with
      edges := if i.edges < 255 then i.edges + 1 else 255, lastEdge := some m, state := state,
      startMark := i.startMark || decide (i.state = .standstill) } := by
  have hedges : min 255 (i.edges + 1) = if i.edges < 255 then i.edges + 1 else 255 := by split <;> omega
  by_cases hs : i.state = .standstill
  · simp [edgeInput, hedges, hs, hstart hs]
  · simp [edgeInput, hedges, hs, hstand hs]

/-- Settles O20: a counted edge by the state that takes it, and the ignored ones. -/
theorem toothEdgeCounted : Obligations.ToothEdgeCounted := by
  intro m i s
  refine ⟨fun hon hf => ?_, fun h => congrArg Host.Outcome.next ((s.stamp m).takeEdge_ignored m h)⟩
  refine congrArg Host.Outcome.next (((s.stamp m).takeEdge_counted m hon hf).trans ?_)
  generalize hx : sideGet s.speed.inputs i = x
  have he := edgeInput_eq m x (state := match x.state with | .standstill => .starting | y => y)
    (fun h => by simp [h]) (fun h => by split <;> simp_all)
  rw [← hx] at he ⊢
  exact congrArg (fun y => ({ s with
    now := m, speed := { s.speed with inputs := sideSet s.speed.inputs i y },
    handed := s.handed ++ [.wakeEvent (.edge i), .abortEvent (.edge i)] } : State)) he

/-! ## What a window close does (R2, R3, R16) -/

/-- A close that is due, with the input of each side after it, the samples and the notices (R2, R3). -/
theorem exec_windowClose_due {s : State} {m : Time} (wires : Sides WireReport) (hon : s.unitsOn = true)
    (hdue : timerDue s.speed.window m = true) : exec (.windowClose m wires) s = .next { s with
      now := m
      speed := { inputs := ⟨(s.closedInput m wires .left).input, (s.closedInput m wires .right).input⟩
                 window := nextPeriod s.speed.window }
      handed := s.handed ++ ([.samplePair ⟨sampleOf (s.closedInput m wires .left), sampleOf (s.closedInput m wires .right)⟩]
        ++ speedNotice s.arrangement .left (s.closedInput m wires .left)
        ++ speedNotice s.arrangement .right (s.closedInput m wires .right)) } := by
  have h : ((s.stamp m).unitsOn && timerDue (s.stamp m).speed.window m) = true := by
    have hunits : (s.stamp m).unitsOn = s.unitsOn := State.unitsOn_eq rfl
    rw [hunits, hon]
    exact hdue
  exact congrArg Host.Outcome.next (if_pos h)

/-- A close before it is due or before the unit is started is void (log entry 7). -/
theorem exec_windowClose_void {s : State} {m : Time} (wires : Sides WireReport)
    (h : s.unitsOn = false ∨ timerDue s.speed.window m = false) :
    exec (.windowClose m wires) s = .next { s with now := m } := by
  have h' : ¬ ((s.stamp m).unitsOn && timerDue (s.stamp m).speed.window m) = true := by
    have hunits : (s.stamp m).unitsOn = s.unitsOn := State.unitsOn_eq rfl
    rcases h with h | h <;> simp [hunits, h]
  exact congrArg Host.Outcome.next (if_neg h')

/-- The channel an input serves: channel 2 for the RIGHT input in SPLIT, else channel 1 (R16). -/
theorem servedChannel_eq (a : Arrangement) (i : Side) :
    servedChannel a i = if a = .split ∧ i = .right then .ch2 else .ch1 := by
  cases a <;> cases i <;> rfl

/-- What a due close shows of one side: its input, its sample and its notices (R2, R3, R16). -/
theorem exists_windowClose_side {s : State} {m : Time} (wires : Sides WireReport) (i : Side) (hon : s.unitsOn = true)
    (hdue : timerDue s.speed.window m = true) :
    ∃ t pair notices, exec (.windowClose m wires) s = .next t ∧ t.handed = s.handed ++ .samplePair pair :: notices
      ∧ sideGet t.speed.inputs i = (s.closedInput m wires i).input
      ∧ sideGet pair i = sampleOf (s.closedInput m wires i)
      ∧ ∀ c, (s.closedInput m wires i).cause = some c →
          .faultNotice (.channelFault c (servedChannel s.arrangement i) false) ∈ t.handed := by
  refine ⟨_, _, _, exec_windowClose_due wires hon hdue, rfl, ?_, ?_, ?_⟩
  · cases i <;> rfl
  · cases i <;> rfl
  · intro c hc
    cases i <;> simp [speedNotice, hc]

/-! ## The conditions a close works under -/

theorem isAntiLock_iff (p : Phase) : isAntiLock p = true ↔ p ∈ [Phase.hold, .release, .recover, .reapply] := by
  cases p <;> simp [isAntiLock]

/-- The bus is judged moving for the dead check: vref at least 960 and no own channel in an anti-lock phase (R14). -/
theorem State.deadCondition_eq {s : State} {moving : Bool}
    (h : moving = true ↔ 960 ≤ s.view.vref
      ∧ ∀ c, (chanGet s.slip c).phase ∉ [Phase.hold, .release, .recover, .reapply]) : s.deadCondition = moving := by
  rw [Bool.eq_iff_iff, h]
  have hchan : (∀ c, (chanGet s.slip c).phase ∉ [Phase.hold, .release, .recover, .reapply])
      ↔ s.antiLockActive = false := by
    simp only [← isAntiLock_iff, State.antiLockActive, Bool.or_eq_false_iff, Bool.not_eq_true]
    exact ⟨fun h => ⟨h .ch1, h .ch2⟩, fun h c => by cases c; exacts [h.1, h.2]⟩
  rw [hchan]
  simp [State.deadCondition]

/-- The measured speed is K × E over the span rounded to nearest, half up, and at most 16383 (R7). -/
theorem measuredSpeed_eq {k edges span ref q : Nat} (href : ref = max 1 span) (hlow : 2 * ref * q ≤ 2 * k * edges + ref)
    (hhigh : 2 * k * edges + ref < 2 * ref * (q + 1)) : measuredSpeed k edges span = min 16383 q := by
  have hd : (if span = 0 then 1 else span) = ref := by split <;> omega
  have hpos : 0 < ref := by omega
  unfold measuredSpeed
  dsimp only
  rw [hd]
  have hdiv := Nat.div_add_mod (k * edges) ref
  have hmod := Nat.mod_lt (k * edges) hpos
  generalize k * edges / ref = d at hdiv ⊢
  generalize k * edges % ref = r at hdiv hmod ⊢
  have hn : 2 * k * edges = 2 * (ref * d + r) := by rw [hdiv, Nat.mul_assoc]
  rw [hn] at hlow hhigh
  congr 1
  split
  · next hr =>
    have h1 : q < d + 2 := by
      by_contra hq
      have : ref * (d + 2) ≤ ref * q := Nat.mul_le_mul_left _ (by omega)
      nlinarith
    have h2 : d < q := by
      by_contra hq
      have : ref * (q + 1) ≤ ref * (d + 1) := Nat.mul_le_mul_left _ (by omega)
      nlinarith
    omega
  · next hr =>
    have h1 : q < d + 1 := by
      by_contra hq
      have : ref * (d + 1) ≤ ref * q := Nat.mul_le_mul_left _ (by omega)
      nlinarith
    have h2 : d < q + 1 := by
      by_contra hq
      have : ref * (q + 1) ≤ ref * d := Nat.mul_le_mul_left _ (by omega)
      nlinarith
    omega

end Sys2Proof.Machine

namespace Sys2Proof.Machine

/-! ## The settling, case by case (R5 to R10) -/

/-- The bound of a window without an edge, from the reference edge (R6, R9). -/
theorem speedBound_eq (k : Nat) {refEdge : Time} {r : Option Time} (t : Time) (h : r = some refEdge) :
    speedBound k r t = k / (t - refEdge).toNat := by
  rw [h]
  rfl

/-- The span of a measured window, from the reference edge to the last edge (R7). -/
theorem edgeSpan_eq {i : SpeedInput} {refEdge lastEdge : Time} (t : Time) (hr : i.refEdge = some refEdge)
    (hl : i.lastEdge = some lastEdge) : edgeSpan i t = (lastEdge - refEdge).toNat := by
  rw [edgeSpan, hr, hl]
  rfl

section
variable {k limit : Nat} {t : Time} {i : SpeedInput}

theorem settleInput_standstill (h : i.state = .standstill) : settleInput k limit t i = settled { i with speed := 0 } := by
  simp [settleInput, h]

/-- The close of the start window (R6). -/
theorem settleInput_startWindow (h : i.state = .starting) (hm : i.startMark = true) :
    settleInput k limit t i = settled { i with speed := 0 } := by
  simp [settleInput, settleStarting, h, hm]

/-- A later window without an edge, not yet too long (R6). -/
theorem settleInput_starting_waits (h : i.state = .starting) (he : i.edges = 0) (hb : 64 ≤ speedBound k i.refEdge t) :
    settleInput k limit t i = settled { i with speed := 0 } := by
  have hb' : ¬ speedBound k i.refEdge t < 64 := by omega
  simp [settleInput, settleStarting, h, he, hb']

/-- A window without an edge after too long a time, in STARTING outside its start window or in RUNNING (R6, R9). -/
theorem settleInput_fallen (h : i.state = .running ∨ i.state = .starting ∧ i.startMark = false) (he : i.edges = 0)
    (hb : speedBound k i.refEdge t < 64) :
    settleInput k limit t i = settled { i with speed := 0, state := .standstill, refEdge := none } := by
  rcases h with h | ⟨h, hm⟩
  · simp [settleInput, settleRunning, h, he, hb]
  · simp [settleInput, settleStarting, h, hm, he, hb]

/-- The first window measured after the start window (R6, R7). -/
theorem settleInput_entered (h : i.state = .starting) (hm : i.startMark = false) (he : 1 ≤ i.edges) (he' : i.edges ≤ 24) :
    settleInput k limit t i =
      { input := { i with speed := measuredSpeed k i.edges (edgeSpan i t), state := .running, jumps := 0 },
        held := false, entered := true } := by
  have he0 : i.edges ≠ 0 := by omega
  simp [settleInput, settleStarting, h, hm, he0, he']

/-- A burst in STARTING (R6, R8). -/
theorem settleInput_starting_burst (h : i.state = .starting) (hm : i.startMark = false) (he : 24 < i.edges) :
    settleInput k limit t i = discarded { i with speed := 0 } := by
  have he0 : i.edges ≠ 0 := by omega
  have he' : ¬ i.edges ≤ 24 := by omega
  simp [settleInput, settleStarting, h, hm, he0, he']

/-- A STARTING input with nothing to measure has speed 0, and only a burst counts (R6, R11). -/
theorem settleInput_starting_unmeasured (h : i.state = .starting)
    (hn : i.startMark = true ∨ i.edges = 0 ∨ 24 < i.edges ∧ i.jumps ≤ 1) (hj : i.jumps ≤ 2) :
    (settleInput k limit t i).input.speed = 0 ∧ (settleInput k limit t i).input.jumps ≤ 2 := by
  by_cases hm : i.startMark = true
  · rw [settleInput_startWindow h hm]
    exact ⟨rfl, hj⟩
  have hm' : i.startMark = false := by simpa using hm
  rcases hn with hn | he | ⟨he, hj'⟩
  · exact absurd hn hm
  · have hs : settleInput k limit t i = settleStarting k t i := by simp [settleInput, h]
    rw [hs, settleStarting, if_neg hm, if_pos he]
    split <;> exact ⟨rfl, hj⟩
  · rw [settleInput_starting_burst h hm' he]
    exact ⟨rfl, Nat.succ_le_succ hj'⟩

/-- A RUNNING input without an edge is bounded by the time elapsed (R9). -/
theorem settleInput_bounded (h : i.state = .running) (he : i.edges = 0) (hb : 64 ≤ speedBound k i.refEdge t) :
    settleInput k limit t i = settled { i with speed := min i.speed (speedBound k i.refEdge t) } := by
  have hb' : ¬ speedBound k i.refEdge t < 64 := by omega
  simp [settleInput, settleRunning, h, he, hb']

/-- A RUNNING input with 1 to 24 edges is measured and checked for a jump (R7, R10). -/
theorem settleInput_checked (h : i.state = .running) (he : 1 ≤ i.edges) (he' : i.edges ≤ 24) :
    settleInput k limit t i = jumpCheck limit (measuredSpeed k i.edges (edgeSpan i t)) i := by
  have he0 : i.edges ≠ 0 := by omega
  simp [settleInput, settleRunning, h, he0, he']

theorem jumpCheck_within {new : Nat} (hup : new ≤ i.speed + limit) (hdown : i.speed ≤ new + limit) :
    jumpCheck limit new i = settled { i with speed := new, jumps := 0 } :=
  if_neg (by omega)

theorem jumpCheck_beyond {new : Nat} (h : i.speed + limit < new ∨ new + limit < i.speed) :
    jumpCheck limit new i = discarded i :=
  if_pos (by omega)

/-- A burst in RUNNING (R8). -/
theorem settleInput_running_burst (h : i.state = .running) (he : 24 < i.edges) :
    settleInput k limit t i = discarded i := by
  have he0 : i.edges ≠ 0 := by omega
  have he' : ¬ i.edges ≤ 24 := by omega
  simp [settleInput, settleRunning, h, he0, he']

end

/-! ## The close of a window, side by side (O21) -/

/-- A sample is held exactly where the jump count rose and the input did not fail (R3, R11). -/
theorem Closes.held_iff {wire : WireReport} {i : SpeedInput} {y : ClosedInput} (h : Closes wire i y) :
    y.held = true ↔ y.input.state ≠ .failed ∧ i.jumps < y.input.jumps := by
  cases h with
  | failedBefore h => simp [openWindow, h]
  | wireFault h hw => simp [openWindow, failInput]
  | jumpFault x hf h hw hj => simp [openWindow, failInput]
  | deadFault x hf h hw hj => simp [openWindow, failInput]
  | alive x n hf h hw hj hn => simpa [openWindow, h.not_failed] using h.held_iff

/-- An input that fails at a close has speed 0 and accel 0, and raises the cause of the step that failed it (R11 to R14). -/
theorem Closes.failing {wire : WireReport} {i : SpeedInput} {y : ClosedInput} (h : Closes wire i y)
    (hi : i.state ≠ .failed) (hy : y.input.state = .failed) :
    y.input.speed = 0 ∧ y.input.accel = 0 ∧ y.cause = some
      (if wire ≠ .good then .speedWire else if 3 ≤ y.input.jumps then .speedJump else .speedDead) := by
  cases h with
  | failedBefore h => exact absurd h hi
  | wireFault h hw => simp [openWindow, failInput, hw]
  | jumpFault x hf h hw hj => simp [openWindow, failInput, hw, hj]
  | deadFault x hf h hw hj =>
    have hj' : ¬ 3 ≤ x.input.jumps := by omega
    simp [openWindow, failInput, hw, hj']
  | alive x n hf h hw hj hn => exact absurd hy (by simpa [openWindow] using h.not_failed)

/-- An input that does not fail at a close raises nothing. -/
theorem Closes.cause_none {wire : WireReport} {i : SpeedInput} {y : ClosedInput} (h : Closes wire i y)
    (hy : i.state = .failed ∨ y.input.state ≠ .failed) : y.cause = none := by
  cases h with
  | failedBefore h => rfl
  | alive x n hf h hw hj hn => rfl
  | wireFault h hw => simp [openWindow, failInput, h] at hy
  | jumpFault x hf h hw hj => simp [openWindow, failInput, hf] at hy
  | deadFault x hf h hw hj => simp [openWindow, failInput, hf] at hy

/-- Settles O21: a due close by the ways one input can close, and a void one. -/
theorem windowCloseHandsSamplePair : Obligations.WindowCloseHandsSamplePair := by
  refine ⟨fun m wires w s hon hw hdue => ?_, fun m wires s h => exec_windowClose_void wires h⟩
  have hdue' : timerDue s.speed.window m = true := (timerDue_iff _ _).2 ⟨w, hw, hdue⟩
  refine ⟨_, (s.closedInput m wires .left).held, (s.closedInput m wires .right).held,
    speedNotice s.arrangement .left (s.closedInput m wires .left),
    speedNotice s.arrangement .right (s.closedInput m wires .right), exec_windowClose_due wires hon hdue', ?_, ?_⟩
  · rw [hw, List.append_assoc, ← List.append_assoc s.handed]
    rfl
  intro i x y ch held notice hx hy hch hheld hnotice
  have hinput : y = (s.closedInput m wires i).input := by cases i <;> exact hy
  have hheld' : held = (s.closedInput m wires i).held := by cases i <;> simpa using hheld
  have hnotice' : notice = speedNotice s.arrangement i (s.closedInput m wires i) := by cases i <;> simpa using hnotice
  have hcloses : Closes (sideGet wires i) x (s.closedInput m wires i) := hx ▸ closeInput_closes _ _ _ _ _ _
  rw [hinput, hheld', hnotice', hch, ← servedChannel_eq]
  refine ⟨rfl, rfl, rfl, hcloses.held_iff, fun hf hy => ?_, fun h => ?_, fun hf => ?_⟩
  · obtain ⟨hspeed, haccel, hcause⟩ := hcloses.failing hf hy
    exact ⟨hspeed, haccel, by rw [speedNotice, hcause]⟩
  · rw [speedNotice, hcloses.cause_none h]
  · have hc : s.closedInput m wires i = { input := openWindow x, held := false, cause := none } :=
      hx ▸ closeInput_failed _ _ _ _ _ _ (hx ▸ hf)
    rw [hc]
    exact ⟨by simp [openWindow, hf], fun hspeed haccel => by simp [openWindow, hf, hspeed, haccel]⟩

/-! ## One input of the station at a close (O22 to O25) -/

theorem State.closedInput_good {s : State} {m : Time} {wires : Sides WireReport} {i : Side} {moving : Bool}
    (hmoving : moving = true ↔ 960 ≤ s.view.vref
      ∧ ∀ c, (chanGet s.slip c).phase ∉ [Phase.hold, .release, .recover, .reapply])
    (hgood : sideGet wires i = .good) : s.closedInput m wires i =
      closeInput (sideGet s.constants i) s.params.jumpLimit moving m .good (sideGet s.speed.inputs i) := by
  rw [State.closedInput, hgood, State.deadCondition_eq hmoving]

/-- The third discard in a row, as the settling gives it: a burst, or a jump beyond the limit (R8, R10, R11). -/
theorem settleInput_discard {k limit : Nat} {t : Time} {x : SpeedInput} {q ref : Nat} {refEdge lastEdge : Time}
    (h : 24 < x.edges ∧ (x.state = .running ∨ x.state = .starting ∧ x.startMark = false)
      ∨ x.state = .running ∧ 1 ≤ x.edges ∧ x.edges ≤ 24 ∧ x.refEdge = some refEdge ∧ x.lastEdge = some lastEdge
        ∧ ref = max 1 (lastEdge - refEdge).toNat ∧ q ≤ 16383
        ∧ 2 * ref * q ≤ 2 * k * x.edges + ref ∧ 2 * k * x.edges + ref < 2 * ref * (q + 1)
        ∧ (x.speed + limit < q ∨ q + limit < x.speed)) :
    ∃ v, settleInput k limit t x = discarded { x with speed := v } := by
  rcases h with ⟨he, h | ⟨h, hm⟩⟩ | ⟨h, he, he', hr, hl, href, hq, hlow, hhigh, hjump⟩
  · exact ⟨x.speed, settleInput_running_burst h he⟩
  · exact ⟨0, settleInput_starting_burst h hm he⟩
  · refine ⟨x.speed, ?_⟩
    have hv : measuredSpeed k x.edges (edgeSpan x t) = q := by
      rw [edgeSpan_eq t hr hl, measuredSpeed_eq href hlow hhigh, Nat.min_eq_right hq]
    rw [settleInput_checked h he he', hv, jumpCheck_beyond hjump]

/-- Settles O22: each way to fail by the equation of that close. -/
theorem windowFaultsFailInput : Obligations.WindowFaultsFailInput := by
  intro m wires i x ch moving s hon hdue hx hf hch hmoving
  obtain ⟨t, pair, notices, hexec, -, hinput, -, hcause⟩ := exists_windowClose_side wires i hon hdue
  have hgood := fun h => hx ▸ State.closedInput_good (m := m) (i := i) (wires := wires) hmoving h
  rw [← servedChannel_eq] at hch
  subst hch
  refine ⟨t, hexec, ?_, ?_, ?_, ?_, ?_, ?_⟩
  · intro hw
    have hc : s.closedInput m wires i =
        { input := openWindow (failInput x), held := false, cause := some .speedWire } :=
      hx ▸ closeInput_wire _ _ _ _ _ _ (hx ▸ hf) hw
    rw [hinput, hc]
    exact ⟨by simp [openWindow, failInput], hcause _ (by rw [hc])⟩
  · intro q ref refEdge lastEdge hw hj hdiscard
    obtain ⟨v, hv⟩ := settleInput_discard (t := m) hdiscard
    have hc := (hgood hw).trans (closeInput_jump _ _ _ _ _ hv hf (by simp [discarded, hj]))
    rw [hinput, hc]
    exact ⟨by simp [openWindow, failInput, discarded, hj], hcause _ (by rw [hc])⟩
  · intro hw hj hs hm hd
    have hc := (hgood hw).trans (closeInput_dead _ _ _ _ _ (settleInput_standstill hs) hf hj hm rfl hd.ge)
    rw [hinput, hc]
    exact ⟨by simp [openWindow, failInput, settled], hcause _ (by rw [hc])⟩
  · intro refEdge hw hj hs he hr hb hm hd
    have hfallen := settleInput_fallen (limit := s.params.jumpLimit) (.inl hs) he (by rwa [speedBound_eq _ m hr])
    have hc := (hgood hw).trans (closeInput_dead _ _ _ _ _ hfallen hf hj hm rfl hd.ge)
    rw [hinput, hc]
    exact ⟨by simp [openWindow, failInput, settled, he], hcause _ (by rw [hc])⟩
  · intro hw hj hs hm hd
    have hc := (hgood hw).trans (closeInput_alive _ _ _ _ _ (settleInput_standstill hs) hf hj (.inl hd))
    rw [hinput, hc]
    simp [openWindow, settled, hs, hm]
  · intro hw hj hs hm
    have hc := (hgood hw).trans (closeInput_alive _ _ _ _ _ (settleInput_standstill hs) hf hj (.inr (.inl hm)))
    rw [hinput, hc]
    simp [openWindow, settled, hs, hm]

/-- A close at which the input stays alive without entering RUNNING: its speed is pushed into the history, the accel and the
dead count follow, and the window opens afresh (R2, R12, R14). -/
theorem closeInput_alive_input {k limit : Nat} {dead : Bool} {t : Time} {i z : SpeedInput} {held : Bool}
    (hz : settleInput k limit t i = { input := z, held := held, entered := false }) (h : i.state ≠ .failed)
    (hj : z.jumps ≤ 2) (hc : i.dead < 399 ∨ dead = false ∨ 0 < z.speed) :
    closeInput k limit dead t .good i =
      { input := openWindow { z with
          accel := (z.speed : Int) - z.history.h0, history := ⟨z.history.h1, z.history.h2, z.history.h3, z.speed⟩,
          dead := if dead = true ∧ z.speed = 0 then i.dead + 1 else 0 },
        held := held, cause := none } :=
  closeInput_alive k limit dead t i hz h hj hc

/-- Settles O23: a window of 1 to 24 edges by the measured speed and the jump check, and a burst. -/
theorem runningInputIsMeasured : Obligations.RunningInputIsMeasured := by
  intro m wires i moving s x kept k ref refEdge lastEdge hon hdue hx hs hw hk hmoving hr hl href he hkept
  obtain ⟨t, pair, notices, hexec, hhanded, hinput, hsample, -⟩ := exists_windowClose_side wires i hon hdue
  have hgood := hx ▸ State.closedInput_good (m := m) hmoving hw
  have hf : x.state ≠ .failed := by simp [hs]
  have he0 : x.edges ≠ 0 := by omega
  have hdiscard : settleInput (sideGet s.constants i) s.params.jumpLimit m x = discarded x → x.jumps ≤ 1 →
      x.dead < 399 ∨ moving = false ∨ 0 < x.speed →
      (s.closedInput m wires i).input = kept
        ∧ sampleOf (s.closedInput m wires i) = ⟨.running, x.speed, (s.closedInput m wires i).input.accel, true⟩ := by
    intro hset hj hd
    have hc := hgood.trans (closeInput_alive_input hset hf (Nat.succ_le_succ hj) hd)
    rw [hc, hkept]
    simp [sampleOf, openWindow, hs, hl, he0]
  refine ⟨t, pair, notices, _, hexec, hhanded, rfl, ?_, ?_⟩
  · intro q0 q hlow hhigh hq he24
    have hv : measuredSpeed (sideGet s.constants i) x.edges (edgeSpan x m) = q := by
      rw [edgeSpan_eq m hr hl, ← hk, measuredSpeed_eq href hlow hhigh, hq]
    have hchecked := settleInput_checked (k := sideGet s.constants i) (limit := s.params.jumpLimit) (t := m) hs he he24
    rw [hv] at hchecked
    refine ⟨fun hdown hup hd => ?_, fun hjump hj hd => ?_⟩
    · have hset := hchecked.trans (jumpCheck_within hup hdown)
      have hc := hgood.trans (closeInput_alive_input hset hf (Nat.zero_le 2) hd)
      rw [hinput, hsample, hc]
      simp [sampleOf, openWindow, hs, hl, he0]
    · rw [hinput, hsample]
      exact hdiscard (hchecked.trans (jumpCheck_beyond hjump)) hj hd
  · intro he24 hj hd
    rw [hinput, hsample]
    exact hdiscard (settleInput_running_burst hs he24) hj hd

/-- Settles O24: the bounded, the fallen and the standing input, each by the settling of its case. -/
theorem stillInputIsBounded : Obligations.StillInputIsBounded := by
  intro m wires i moving s x refEdge after hon hdue hx hw hmoving hj he hafter
  obtain ⟨t, pair, notices, hexec, hhanded, hinput, hsample, -⟩ := exists_windowClose_side wires i hon hdue
  have hgood := hx ▸ State.closedInput_good (m := m) hmoving hw
  refine ⟨t, pair, notices, _, hexec, hhanded, rfl, ?_, ?_, ?_⟩
  · intro b v hs hr hb hb64 hv hd
    have hbound := (speedBound_eq (sideGet s.constants i) m hr).trans hb.symm
    have hset := settleInput_bounded (limit := s.params.jumpLimit) hs he (hbound.symm ▸ hb64)
    rw [hbound, ← hv] at hset
    have hc := hgood.trans (closeInput_alive_input hset (by simp [hs]) hj hd)
    rw [hinput, hsample, hc, hafter]
    simp [sampleOf, openWindow, hs, he, hr]
  · intro hs hr hb hd
    have hset := settleInput_fallen (limit := s.params.jumpLimit) (.inl hs) he (by rwa [speedBound_eq _ m hr])
    have hc := hgood.trans (closeInput_alive_input hset (by simp [hs]) hj (hd.imp_right .inl))
    rw [hinput, hsample, hc, hafter]
    simp [sampleOf, openWindow, he]
  · intro hs hd
    have hset := settleInput_standstill (k := sideGet s.constants i) (limit := s.params.jumpLimit) (t := m) hs
    have hc := hgood.trans (closeInput_alive_input hset (by simp [hs]) hj (hd.imp_right .inl))
    rw [hinput, hsample, hc, hafter]
    simp [sampleOf, openWindow, hs, he]

/-- Settles O25: each window of a STARTING input by the settling of its case. -/
theorem startingInputSettles : Obligations.StartingInputSettles := by
  intro m wires i moving ch s x k still hon hdue hx hs hw hj hk hmoving hch hstill
  obtain ⟨t, pair, notices, hexec, hhanded, hinput, hsample, hcause⟩ := exists_windowClose_side wires i hon hdue
  have hgood := hx ▸ State.closedInput_good (m := m) hmoving hw
  have hf : x.state ≠ .failed := by simp [hs]
  rw [← servedChannel_eq] at hch
  rw [← hk] at hgood
  refine ⟨t, pair, notices, _, hexec, hhanded, rfl, by rw [hinput]; rfl, by rw [hinput]; rfl, by rw [hinput]; rfl,
    fun hd => ⟨?_, ?_, ?_⟩, ?_, ?_⟩
  · intro hm he
    have he0 : x.edges ≠ 0 := by omega
    have hc := hgood.trans (closeInput_alive_input (settleInput_startWindow hs hm) hf hj (hd.imp_right .inl))
    rw [hinput, hsample, hc, hstill]
    simp [sampleOf, openWindow, hs, he0]
  · intro refEdge hm he hr
    refine ⟨fun hb => ?_, fun hb => ?_⟩ <;> rw [← speedBound_eq k m hr] at hb
    · have hc := hgood.trans
        (closeInput_alive_input (settleInput_fallen (.inr ⟨hs, hm⟩) he hb) hf hj (hd.imp_right .inl))
      rw [hinput, hsample, hc, hstill]
      simp [sampleOf, openWindow, he]
    · have hc := hgood.trans
        (closeInput_alive_input (settleInput_starting_waits hs he hb) hf hj (hd.imp_right .inl))
      rw [hinput, hsample, hc, hstill]
      simp [sampleOf, openWindow, hs, he, hr]
  · intro hm he hj'
    have he0 : x.edges ≠ 0 := by omega
    have hc := hgood.trans
      (closeInput_alive_input (settleInput_starting_burst hs hm he) hf (Nat.succ_le_succ hj') (hd.imp_right .inl))
    rw [hinput, hsample, hc, hstill]
    simp [sampleOf, openWindow, hs, he0]
  · intro refEdge lastEdge ref q0 q hm he he24 hr hl href hlow hhigh hq hd
    have he0 : x.edges ≠ 0 := by omega
    have hset := settleInput_entered (k := k) (limit := s.params.jumpLimit) (t := m) hs hm he he24
    rw [edgeSpan_eq m hr hl, measuredSpeed_eq href hlow hhigh, ← hq] at hset
    have hc := hgood.trans (closeInput_alive _ _ _ _ _ hset hf (Nat.zero_le 2) hd)
    rw [hinput, hsample, hc]
    simp [sampleOf, openWindow, updateHistory, he0, hl]
  · intro hm hd hn
    obtain ⟨hspeed, hjumps⟩ := settleInput_starting_unmeasured (k := k) (limit := s.params.jumpLimit) (t := m) hs hn hj
    have hc := hgood.trans (closeInput_dead _ _ _ _ _ rfl hf hjumps hm hspeed hd.ge)
    rw [hinput, hsample, hc, hch]
    exact ⟨rfl, rfl, rfl, rfl, rfl, hcause _ (by rw [hc])⟩

end Sys2Proof.Machine

namespace Sys2Proof.Machine

/-! ## PRESSURE_SAMPLE (R19 to R31) -/

/-- The band check and conversion of one sensor, as R20 and R21 give it. -/
theorem sampleSensor_sampled (offset gain code : Nat) (x : Sensor) :
    sensorSampled offset gain code x (sampleSensor offset gain code x) := by
  have hband : outOfBand code = true ↔ code < 205 ∨ 3891 < code := by simp [outOfBand]
  refine ⟨fun hs hlow hhigh => ?_, fun hs hb hn => ?_, fun hs hb hn => ?_, fun hs => by simp [sampleSensor, hs]⟩
  · have hin : ¬ outOfBand code = true := by rw [hband]; omega
    simp [sampleSensor, hs, hin, convertCode]
  · have hn' : ¬ 5 ≤ x.outOfBand + 1 := by omega
    simp [sampleSensor, hs, hband.2 hb, hn']
  · simp [sampleSensor, hs, hband.2 hb, hn]

theorem highest_eq_max? (xs : List Nat) : highest xs = xs.max? := by cases xs <;> rfl

/-- The highest of some values is an upper bound among them. -/
theorem highest_eq_some {xs : List Nat} {d : Nat} (hd : d ∈ xs) (hmax : ∀ e ∈ xs, e ≤ d) : highest xs = some d := by
  rw [highest_eq_max?, List.max?_eq_some_iff]
  exact ⟨hd, hmax⟩

theorem mem_positions (p : Position) : p ∈ positions := by revert p; decide

/-- The demands to choose from are those the FRESH entries carry, in mbar (R26). -/
theorem State.mem_freshDemands (s : State) (v : Nat) : v ∈ s.freshDemands ↔
    ∃ p d, (quadGet s.view.peers p).state = .fresh ∧ (quadGet s.view.peers p).demand = some d ∧ v = 100 * d := by
  simp only [State.freshDemands, List.mem_filterMap, mem_positions, true_and]
  refine exists_congr fun p => ?_
  by_cases hf : (quadGet s.view.peers p).state = .fresh
  · simp [hf, eq_comm]
  · simp [hf]

/-- A sample that is due works the four inputs and hands the chamber samples and the notices (R19). -/
theorem exec_pressureSample_due {s : State} {m : Time} (codes : PressureCodes) (hon : s.unitsOn = true)
    (hdue : timerDue s.pressure.timer m = true) : exec (.pressureSample m codes) s = .next { s with
      now := m
      pressure := s.sampledPressure m codes
      handed := s.handed ++ ([chamberSampleOf (s.sampledPressure m codes) .ch1,
        chamberSampleOf (s.sampledPressure m codes) .ch2] ++ pressureNotices s.pressure (s.sampledPressure m codes)) } := by
  have h : ((s.stamp m).unitsOn && timerDue (s.stamp m).pressure.timer m) = true := by
    have hunits : (s.stamp m).unitsOn = s.unitsOn := State.unitsOn_eq rfl
    rw [hunits, hon]
    exact hdue
  exact congrArg Host.Outcome.next (if_pos h)

/-- A sample before it is due or before the unit is started is void (log entry 7). -/
theorem exec_pressureSample_void {s : State} {m : Time} (codes : PressureCodes)
    (h : s.unitsOn = false ∨ timerDue s.pressure.timer m = false) :
    exec (.pressureSample m codes) s = .next { s with now := m } := by
  have h' : ¬ ((s.stamp m).unitsOn && timerDue (s.stamp m).pressure.timer m) = true := by
    have hunits : (s.stamp m).unitsOn = s.unitsOn := State.unitsOn_eq rfl
    rcases h with h | h <;> simp [hunits, h]
  exact congrArg Host.Outcome.next (if_neg h')

/-- Pd and the demand-lost mark after a sample, from the demand sensor as checked at it (R25, R26). -/
theorem State.sampledPressure_pd (s : State) (m : Time) (codes : PressureCodes) :
    ((s.sampledPressure m codes).pd, (s.sampledPressure m codes).demandLost) =
      settlePd (s.sampledPressure m codes).demand (highest s.freshDemands) s.pressure.demandLost := rfl

/-- With the demand sensor GOOD Pd is its reading and the mark stands (R25). -/
theorem State.sampledPressure_pd_good {s : State} {m : Time} {codes : PressureCodes}
    (h : (s.sampledPressure m codes).demand.state = .good) :
    (s.sampledPressure m codes).pd = (s.sampledPressure m codes).demand.reading
      ∧ (s.sampledPressure m codes).demandLost = s.pressure.demandLost := by
  simpa [settlePd, h] using s.sampledPressure_pd m codes

/-- With the demand sensor FAILED Pd is the substitute, or 0 and the mark set with none (R26). -/
theorem State.sampledPressure_pd_failed {s : State} {m : Time} {codes : PressureCodes}
    (h : (s.sampledPressure m codes).demand.state = .failed) :
    (s.sampledPressure m codes).pd = (highest s.freshDemands).getD 0
      ∧ (s.sampledPressure m codes).demandLost = (highest s.freshDemands).isNone := by
  simpa [settlePd, h] using s.sampledPressure_pd m codes

/-- The substitute is the highest demand a FRESH entry carries (R26). -/
theorem State.highest_freshDemands {s : State} {p : Position} {d : Nat} (hp : (quadGet s.view.peers p).state = .fresh)
    (hd : (quadGet s.view.peers p).demand = some d)
    (hmax : ∀ y e, (quadGet s.view.peers y).state = .fresh → (quadGet s.view.peers y).demand = some e → e ≤ d) :
    highest s.freshDemands = some (100 * d) := by
  refine highest_eq_some ((s.mem_freshDemands _).2 ⟨p, d, hp, hd, rfl⟩) fun v hv => ?_
  obtain ⟨y, e, hy, he, rfl⟩ := (s.mem_freshDemands v).1 hv
  exact Nat.mul_le_mul_left 100 (hmax y e hy he)

/-- There is no substitute where no FRESH entry carries a demand (R26). -/
theorem State.highest_freshDemands_none {s : State}
    (h : ∀ y, (quadGet s.view.peers y).state = .fresh → (quadGet s.view.peers y).demand = none) :
    highest s.freshDemands = none := by
  have hnil : s.freshDemands = [] := by
    refine List.eq_nil_iff_forall_not_mem.2 fun v hv => ?_
    obtain ⟨y, e, hy, he, -⟩ := (s.mem_freshDemands v).1 hv
    simp [h y hy] at he
  rw [hnil]
  rfl

/-- Settles O26: a due sample by its sensors, its Pd and its hand-offs, and a void one. -/
theorem pressureSampleReadsInputs : Obligations.PressureSampleReadsInputs := by
  refine ⟨?_, fun m codes s h => exec_pressureSample_void codes h⟩
  rintro m codes w failed p s hon hw hage rfl hfailed
  obtain rfl : failed = failedNow := funext fun x => funext (hfailed x)
  have hdue : timerDue s.pressure.timer m = true := (timerDue_iff _ _).2 ⟨w, hw, hage⟩
  refine ⟨_, s.sampledPressure m codes, exec_pressureSample_due codes hon hdue, rfl, ?_, ?_,
    sampleSensor_sampled _ _ _ _, sampleSensor_sampled _ _ _ _, fun ha => ?_, fun ha => ?_,
    sampleSensor_sampled _ _ _ _, State.sampledPressure_pd_good, fun x d hd hx hdem hmax => ?_, fun hd hnone => ?_⟩
  · simp [pressureNotices, chamberSampleOf, chanGet]
  · simp [State.sampledPressure, nextPeriod, hw]
  · simpa [State.sampledPressure, sampleChamber2, ha] using sampleSensor_sampled _ _ _ _
  · simp [State.sampledPressure, sampleChamber2, ha]
  · simpa [State.highest_freshDemands hx hdem hmax] using State.sampledPressure_pd_failed hd
  · simpa [State.highest_freshDemands_none hnone] using State.sampledPressure_pd_failed hd

/-! ## The braking flag (R28) and the parameters it is judged by (R183) -/

theorem clampTo_within {lo hi : Nat} (h : lo ≤ hi) (v : Nat) : within lo hi (clampTo lo hi v) :=
  ⟨Nat.le_max_left _ _, Nat.max_le.2 ⟨h, Nat.min_le_left _ _⟩⟩

theorem clampSensors_inRange {lo hi : Nat} (h : lo ≤ hi) (x : PerSensor) : (clampSensors lo hi x).inRange lo hi :=
  ⟨clampTo_within h _, clampTo_within h _, clampTo_within h _, clampTo_within h _⟩

/-- Settled parameters stand in their ranges and in their order (R183). -/
theorem settleParams_inRange (p : Params) : (settleParams p).InRange where
  stations := clampTo_within (by decide) _
  teeth := clampTo_within (by decide) _
  circ := ⟨clampTo_within (by decide) _, clampTo_within (by decide) _⟩
  jumpLimit := clampTo_within (by decide) _
  ramps := ⟨clampTo_within (by decide) _, clampTo_within (by decide) _⟩
  tolerance := clampTo_within (by decide) _
  slip := ⟨clampTo_within (by decide) _, clampTo_within (by decide) _⟩
  a1 := clampTo_within (by decide) _
  a2 := by simp only [settleParams, clampOrder, clampRanges, clampTo, within]; omega
  a3 := clampTo_within (by decide) _
  vEntry := clampTo_within (by decide) _
  vMin := by simp only [settleParams, clampOrder, clampRanges, clampTo]; omega
  pOn := clampTo_within (by decide) _
  pOff := by simp only [settleParams, clampOrder, clampRanges, clampTo]; omega
  deltaP := clampTo_within (by decide) _
  stepPeriod := clampTo_within (by decide) _
  tRelMax := clampTo_within (by decide) _
  yaw := ⟨clampTo_within (by decide) _, clampTo_within (by decide) _⟩
  pEcon := clampTo_within (by decide) _
  gains := ⟨clampTo_within (by decide) _, clampTo_within (by decide) _⟩
  uOn := clampTo_within (by decide) _
  offsets := clampSensors_inRange (by decide) _
  sensorGains := clampSensors_inRange (by decide) _

theorem defaultParams_inRange : defaultParams.InRange := by
  constructor <;> simp [defaultParams, within, PerSensor.inRange]

/-- The braking flag after a sample, from the Pd settled at it (R28). -/
theorem State.sampledPressure_braking (s : State) (m : Time) (codes : PressureCodes) :
    (s.sampledPressure m codes).braking =
      brakingAfter s.params.pOn s.params.pOff s.pressure.braking (s.sampledPressure m codes).pd := rfl

/-- Settles O27: the hysteresis by the two values of the flag, and the settled thresholds by their ranges. -/
theorem brakingFlagFollowsDemand : Obligations.BrakingFlagFollowsDemand := by
  refine ⟨fun m codes s hon hdue => ?_, fun p => ?_, rfl, rfl⟩
  · refine ⟨_, exec_pressureSample_due codes hon hdue, ?_⟩
    dsimp only
    rw [State.sampledPressure_braking]
    refine ⟨fun hb h => ?_, fun hb h => ?_, fun hb h => ?_, fun hb h => ?_⟩ <;> simp [brakingAfter, hb, h]
  · have h := settleParams_inRange p
    obtain ⟨hlow, hhigh⟩ := h.pOn
    obtain ⟨hoff, horder⟩ := h.pOff
    exact ⟨hlow, hhigh, hoff, horder⟩

/-! ## The economy flag (R30, R31) -/

/-- The runs and the economy flag after a sample, from the reservoir sensor as checked at it (R30, R31). -/
theorem State.sampledPressure_economy (s : State) (m : Time) (codes : PressureCodes) :
    ((s.sampledPressure m codes).lowRun, (s.sampledPressure m codes).highRun, (s.sampledPressure m codes).economy) =
      settleEconomy s.params.pEcon (s.sampledPressure m codes).reservoir s.pressure m := rfl

theorem runWhile_decide (p : Prop) [Decidable p] (run : Option Time) (t : Time) :
    runWhile (decide p) run t = if p then some (run.getD t) else none := by
  by_cases h : p <;> cases run <;> simp [runWhile, h]

/-- The reservoir cannot stand below P_econ and at P_econ + 500 at once: of the two runs one is absent (R30). -/
theorem runs_exclusive (pEcon reading : Nat) (low high : Option Time) (t : Time) :
    runWhile (decide (reading < pEcon)) low t = none ∨ runWhile (decide (pEcon + 500 ≤ reading)) high t = none := by
  by_cases h : reading < pEcon
  · exact .inr (by rw [runWhile_decide, if_neg (by omega)])
  · exact .inl (by rw [runWhile_decide, if_neg h])

/-- A run that is absent or younger than the limit is not old. -/
theorem not_aged_of_young {run : Option Time} {t : Time} {n : Nat} (h : ∀ t0, run = some t0 → (t - t0).toNat < n) :
    ¬ aged run t n = true := by
  rw [aged_iff]
  rintro ⟨t0, h0, hage⟩
  exact absurd (h t0 h0) (Nat.not_lt.2 hage)

/-- Settles O28: the runs by their conditions, the flag by the age of the one run that is present. -/
theorem economyFlagFollowsRuns : Obligations.EconomyFlagFollowsRuns := by
  intro m codes s hon hdue
  refine ⟨_, s.sampledPressure m codes, exec_pressureSample_due codes hon hdue, rfl, fun hr => ?_, fun hr => ?_⟩
  · have h := s.sampledPressure_economy m codes
    have hexcl := runs_exclusive s.params.pEcon (s.sampledPressure m codes).reservoir.reading s.pressure.lowRun
      s.pressure.highRun m
    simp only [settleEconomy, hr, Prod.mk.injEq] at h
    obtain ⟨hlow, hhigh, heco⟩ := h
    rw [← hlow, ← hhigh] at heco hexcl
    refine ⟨hlow.trans (runWhile_decide _ _ _), hhigh.trans (runWhile_decide _ _ _), fun t0 h0 hage => ?_,
      fun t0 h0 hage => ?_, fun hl hh => ?_⟩
    · have hold := (aged_iff _ _ _).2 ⟨t0, h0, hage⟩
      rw [heco, economyAfter, if_pos hold]
    · have hold := (aged_iff _ _ _).2 ⟨t0, h0, hage⟩
      have hnone : (s.sampledPressure m codes).lowRun = none := hexcl.resolve_right (by simp [h0])
      rw [heco, economyAfter, if_pos hold, hnone]
      rfl
    · rw [heco, economyAfter, if_neg (not_aged_of_young hl), if_neg (not_aged_of_young hh)]
  · have h := s.sampledPressure_economy m codes
    simp only [settleEconomy, hr, Prod.mk.injEq] at h
    obtain ⟨hlow, hhigh, heco⟩ := h
    exact ⟨heco, hlow, hhigh⟩

/-! ## REPORT_TIMER_EXPIRY, QUIET_REPORT_CHANGE and SAMPLE_PERIOD_CHANGE (R32, R132 to R138) -/

/-- A pressure goes on the link only while its sensor is GOOD (R33, R135). -/
theorem linkPressure_eq (x : Sensor) : linkPressure x = if x.state = .good then some (x.reading / 100) else none := by
  cases h : x.state <;> simp [linkPressure, h]

/-- The tracking-warning flag: some channel warns or carries the wound-up mark (R103, R138). -/
theorem State.trackingWarning_iff (s : State) : s.trackingWarning = true ↔
    ∃ c, (chanGet s.driver.chans c).warning = true ∨ (chanGet s.driver.chans c).woundUp = true := by
  simp only [State.trackingWarning, channelWarns, Bool.or_eq_true]
  refine ⟨fun h => h.elim (fun h => ⟨.ch1, h⟩) (fun h => ⟨.ch2, h⟩), fun ⟨c, h⟩ => ?_⟩
  cases c
  · exact .inl h
  · exact .inr h

theorem supplyLow_iff (x : SupplyState) : supplyLow x = true ↔ x ≠ .normal := by cases x <;> simp [supplyLow]

/-- A hand-off taken in its turn leaves the list and has its effect. -/
theorem State.takeInTurn_of_inTurn {s : State} {c : Instr} (h : s.inTurn c = true) (f : State → State) :
    s.takeInTurn c f = f (s.take c) :=
  if_pos h

/-- Settles O49: the expiry by the STATUS it composes, a void one, and the two hand-offs of a change of QUIET. -/
theorem statusIsComposed : Obligations.StatusIsComposed := by
  refine ⟨?_, fun m s h => congrArg Host.Outcome.next (if_neg (by simp [h])), fun into s hr hp => ⟨?_, ?_, ?_⟩⟩
  · rintro m own s hdue rfl
    refine ⟨s.composed, congrArg Host.Outcome.next (if_pos hdue), rfl, rfl, rfl, linkPressure_eq _, linkPressure_eq _,
      rfl, rfl, rfl, rfl, s.trackingWarning_iff, supplyLow_iff _, by simp [State.composed, State.coastingFlag], rfl, rfl⟩
  · intro ht
    exact congrArg Host.Outcome.next ((State.takeInTurn_of_inTurn hr _).trans (if_pos ht))
  · intro ht
    exact congrArg Host.Outcome.next ((State.takeInTurn_of_inTurn hr _).trans (if_neg (by simp [ht])))
  · intro hon
    exact congrArg Host.Outcome.next ((State.takeInTurn_of_inTurn hp _).trans (if_pos hon))

end Sys2Proof.Machine

namespace Sys2Proof.Machine

/-! ## The range law, block by block -/

/-- The ranges of the pressure unit (R20, R21, R24). -/
structure PressureUnit.InRange (x : PressureUnit) : Prop where
  sensors : x.demand.inRange ∧ x.reservoir.inRange ∧ ∀ c, (chanGet x.chambers c).inRange
  pd : x.pd ≤ 15000

/-- The ranges of the view unit, and R35's law for each entry of the peer table (R35, R42, R50, R53). -/
structure ViewUnit.InRange (x : ViewUnit) : Prop where
  peers : ∀ p, (quadGet x.peers p).Lawful
  vector : ∀ p i, (sideGet (quadGet x.lanes p) i).inRange 16383
  vref : x.vref ≤ 16383 ∧ x.coasting ≤ 255

/-- No entry may stand for the position: the view unit does not run, or the position is the own one or not below S (R35). -/
def State.Barred (s : State) (p : Position) : Prop :=
  s.unitsOn = false ∨ p = s.position ∨ s.params.stations ≤ p.val

/-- A channel that has counted nothing and is not in RELEASE, as before the slip controller runs (R63, R184). -/
def ChannelRec.Unstarted (r : ChannelRec) : Prop :=
  r.falseOnset = 0 ∧ r.releaseCount = 0 ∧ r.stepCount = 0 ∧ r.phase ≠ .release

/-- A channel record as the range law has it, where `on` says that the units run. -/
structure ChannelRec.InRange (q : Params) (on : Bool) (r : ChannelRec) : Prop where
  lawful : r.Lawful q
  unstarted : on = false → r.Unstarted

section
variable {s t : State} (hs : s.RangeLaw)
include hs

theorem State.RangeLaw.pressureInRange : s.pressure.InRange := ⟨hs.sensors, hs.pd⟩

theorem State.RangeLaw.viewInRange : s.view.InRange := ⟨hs.peers, hs.vector, hs.vref⟩

theorem State.RangeLaw.channelInRange (c : Channel) : (chanGet s.slip c).InRange s.params s.unitsOn :=
  ⟨hs.channels c, fun h => hs.notStarted h c⟩

/-- The parameters in force stand in their ranges, settled or not (R183). -/
theorem State.RangeLaw.paramsInRange : s.params.InRange := by
  unfold State.params
  cases h : s.startup.params with
  | none => exact defaultParams_inRange
  | some q => exact hs.params q h

/-- The law after a command, by its blocks, where the parameters, the position and the running of the units stand. -/
theorem State.RangeLaw.of_blocks (hparams : t.startup.params = s.startup.params) (hposition : t.position = s.position)
    (hon : t.unitsOn = s.unitsOn) (hp : t.pressure.InRange) (hv : t.view.InRange)
    (he : ∀ p, s.Barred p → (quadGet t.view.peers p).state = .empty)
    (hc : ∀ c, (chanGet t.slip c).InRange s.params s.unitsOn) : t.RangeLaw := by
  have hq : t.params = s.params := by simp only [State.params, hparams]
  constructor
  case params => rw [hparams]; exact hs.params
  case sensors => exact hp.sensors
  case pd => exact hp.pd
  case peers => exact hv.peers
  case noEntry => rw [hon, hposition, hq]; exact he
  case vector => exact hv.vector
  case vref => exact hv.vref
  case channels => rw [hq]; exact fun c => (hc c).lawful
  case notStarted => rw [hon]; exact fun h c => (hc c).unstarted h

/-- A command that may move the stage, but neither starts nor stops the units, and writes no other block of the law. -/
theorem State.RangeLaw.of_stage (hparams : t.startup.params = s.startup.params) (hposition : t.position = s.position)
    (hon : t.unitsOn = s.unitsOn) (hpressure : t.pressure = s.pressure) (hview : t.view = s.view)
    (hslip : t.slip = s.slip) : t.RangeLaw :=
  hs.of_blocks hparams hposition hon (hpressure ▸ hs.pressureInRange) (hview ▸ hs.viewInRange)
    (fun p => hview ▸ hs.noEntry p) (fun c => hslip ▸ hs.channelInRange c)

/-- A command that writes no block of the law. -/
theorem State.RangeLaw.of_frame (hstartup : t.startup = s.startup) (hpressure : t.pressure = s.pressure)
    (hview : t.view = s.view) (hslip : t.slip = s.slip) : t.RangeLaw :=
  hs.of_stage (congrArg StartUp.params hstartup) (State.position_eq hstartup) (State.unitsOn_eq hstartup) hpressure hview
    hslip

/-- A command that writes the pressure unit alone. -/
theorem State.RangeLaw.of_pressure (hp : t.pressure.InRange) (hstartup : t.startup = s.startup) (hview : t.view = s.view)
    (hslip : t.slip = s.slip) : t.RangeLaw :=
  hs.of_blocks (congrArg StartUp.params hstartup) (State.position_eq hstartup) (State.unitsOn_eq hstartup) hp
    (hview ▸ hs.viewInRange) (fun p => hview ▸ hs.noEntry p) (fun c => hslip ▸ hs.channelInRange c)

/-- A command that writes the view unit alone. -/
theorem State.RangeLaw.of_view (hv : t.view.InRange) (he : ∀ p, s.Barred p → (quadGet t.view.peers p).state = .empty)
    (hstartup : t.startup = s.startup) (hpressure : t.pressure = s.pressure) (hslip : t.slip = s.slip) : t.RangeLaw :=
  hs.of_blocks (congrArg StartUp.params hstartup) (State.position_eq hstartup) (State.unitsOn_eq hstartup)
    (hpressure ▸ hs.pressureInRange) hv he (fun c => hslip ▸ hs.channelInRange c)

/-- A command that writes the channel records alone. -/
theorem State.RangeLaw.of_slip (hc : ∀ c, (chanGet t.slip c).InRange s.params s.unitsOn) (hstartup : t.startup = s.startup)
    (hpressure : t.pressure = s.pressure) (hview : t.view = s.view) : t.RangeLaw :=
  hs.of_blocks (congrArg StartUp.params hstartup) (State.position_eq hstartup) (State.unitsOn_eq hstartup)
    (hpressure ▸ hs.pressureInRange) (hview ▸ hs.viewInRange) (fun p => hview ▸ hs.noEntry p) hc

end

/-! ## The pressure unit (R20, R21, R24 to R26) -/

theorem sampleSensor_inRange (offset gain code : Nat) {x : Sensor} (h : x.inRange) :
    (sampleSensor offset gain code x).inRange := by
  obtain ⟨hreading, hcount, hgood⟩ := h
  unfold sampleSensor
  split
  · exact ⟨hreading, hcount, hgood⟩
  next hs =>
  split
  · split
    · exact ⟨hreading, le_rfl, nofun⟩
    · exact ⟨hreading, by dsimp only; omega, fun _ => by dsimp only; omega⟩
  · exact ⟨Nat.min_le_left _ _, Nat.zero_le _, fun _ => Nat.zero_le _⟩

theorem highest_mem {xs : List Nat} {v : Nat} (h : highest xs = some v) : v ∈ xs := by
  rw [highest_eq_max?] at h
  exact List.max?_mem h

/-- A demand a peer reports is at most 15000 mbar (R26, R35). -/
theorem State.highest_freshDemands_le {s : State} (hs : s.RangeLaw) : (highest s.freshDemands).getD 0 ≤ 15000 := by
  cases h : highest s.freshDemands with
  | none => exact Nat.zero_le _
  | some v =>
    obtain ⟨p, d, -, hd, rfl⟩ := (s.mem_freshDemands v).1 (highest_mem h)
    have := (hs.peers p).pressures.1 d hd
    simp only [Option.getD_some]
    omega

theorem State.sampledPressure_inRange {s : State} (hs : s.RangeLaw) (m : Time) (codes : PressureCodes) :
    (s.sampledPressure m codes).InRange := by
  obtain ⟨hdemand, hreservoir, hchambers⟩ := hs.sensors
  have hd : (s.sampledPressure m codes).demand.inRange := sampleSensor_inRange _ _ _ hdemand
  refine ⟨⟨hd, sampleSensor_inRange _ _ _ hreservoir, fun c => ?_⟩, ?_⟩
  · cases c
    · exact sampleSensor_inRange _ _ _ (hchambers .ch1)
    · change (sampleChamber2 _ _ _ _ _).inRange
      unfold sampleChamber2
      split
      · exact hchambers .ch2
      · exact sampleSensor_inRange _ _ _ (hchambers .ch2)
  · cases h : (s.sampledPressure m codes).demand.state with
    | good => rw [(State.sampledPressure_pd_good h).1]; exact hd.1
    | failed => rw [(State.sampledPressure_pd_failed h).1]; exact s.highest_freshDemands_le hs

theorem State.takePressureSample_rangeLaw {s : State} (hs : s.RangeLaw) (m : Time) (codes : PressureCodes) :
    (s.takePressureSample m codes).RangeLaw := by
  unfold State.takePressureSample
  split
  · exact hs.of_pressure (s.sampledPressure_inRange hs m codes) rfl rfl rfl
  · exact hs

theorem State.changeSamplePeriod_rangeLaw {s : State} (hs : s.RangeLaw) (intoQuiet : Bool) :
    (s.changeSamplePeriod intoQuiet).RangeLaw := by
  unfold State.changeSamplePeriod
  split
  · exact hs.of_pressure ⟨hs.sensors, hs.pd⟩ rfl rfl rfl
  · exact hs

/-! ## Channel records set from outside the slip controller (R88, R89) -/

/-- The record `r'` raises nothing above `r` and enters neither RELEASE nor a tracked phase. -/
structure ChannelRec.Below (r' r : ChannelRec) : Prop where
  pLock : r'.pLock ≤ r.pLock
  cap : r'.cap ≤ r.cap
  tracked : isTracked r'.phase = true → isTracked r.phase = true
  falseOnset : r'.falseOnset ≤ r.falseOnset
  releaseCount : r'.releaseCount ≤ r.releaseCount
  release : r'.phase = .release → r.phase = .release
  stepCount : r'.stepCount ≤ r.stepCount

theorem ChannelRec.Below.refl (r : ChannelRec) : r.Below r := ⟨le_rfl, le_rfl, id, le_rfl, le_rfl, id, le_rfl⟩

theorem ChannelRec.Below.trans {a b c : ChannelRec} (h : a.Below b) (h' : b.Below c) : a.Below c :=
  ⟨h.pLock.trans h'.pLock, h.cap.trans h'.cap, h'.tracked ∘ h.tracked, h.falseOnset.trans h'.falseOnset,
    h.releaseCount.trans h'.releaseCount, h'.release ∘ h.release, h.stepCount.trans h'.stepCount⟩

theorem ChannelRec.Below.lawful {q : Params} {r' r : ChannelRec} (h : r'.Below r) (hr : r.Lawful q) : r'.Lawful q where
  pLock := h.pLock.trans hr.pLock
  cap := ⟨h.cap.trans hr.cap.1, fun ht => h.cap.trans (hr.cap.2 (h.tracked ht))⟩
  falseOnset := h.falseOnset.trans hr.falseOnset
  releaseCount := ⟨h.releaseCount.trans hr.releaseCount.1,
    fun hp => h.releaseCount.trans_lt (hr.releaseCount.2 (h.release hp))⟩
  stepCount := h.stepCount.trans hr.stepCount

theorem ChannelRec.Below.unstarted {r' r : ChannelRec} (h : r'.Below r) (hr : r.Unstarted) : r'.Unstarted := by
  obtain ⟨hfalse, hrelease, hstep, hphase⟩ := hr
  have hf := h.falseOnset
  have hc := h.releaseCount
  have hst := h.stepCount
  exact ⟨by omega, by omega, by omega, fun hp => hphase (h.release hp)⟩

theorem forcedRecord_below (r : ChannelRec) : (forcedRecord r).Below r :=
  ⟨le_rfl, le_rfl, nofun, Nat.zero_le _, Nat.zero_le _, nofun, Nat.zero_le _⟩

/-- A phase set to one that is neither RELEASE nor tracked. -/
theorem ChannelRec.below_of_phase {p : Phase} (hp : isTracked p = false) (hr : p ≠ .release) (r : ChannelRec) :
    ChannelRec.Below { r with phase := p } r :=
  ⟨le_rfl, le_rfl, fun h => by simp [hp] at h, le_rfl, le_rfl, fun h => absurd h hr, le_rfl⟩

/-- No channel record is raised, and none enters RELEASE or a tracked phase. -/
def SlipBelow (s t : State) : Prop := ∀ c, (chanGet t.slip c).Below (chanGet s.slip c)

theorem SlipBelow.of_slip {s t : State} (h : t.slip = s.slip) : SlipBelow s t := by
  intro c
  rw [h]
  exact .refl _

theorem SlipBelow.trans {s t u : State} (h : SlipBelow s t) (h' : SlipBelow t u) : SlipBelow s u :=
  fun c => (h' c).trans (h c)

/-- What comes after is free to do anything that leaves the channel records as they are. -/
theorem SlipBelow.then_slip {s t u : State} (h : SlipBelow s t) (e : u.slip = t.slip) : SlipBelow s u :=
  h.trans (.of_slip e)

/-- And so is what comes before. -/
theorem SlipBelow.after_slip {s t u : State} (h : SlipBelow t u) (e : t.slip = s.slip) : SlipBelow s u :=
  (of_slip e).trans h

theorem State.setChannel_below {s : State} {c : Channel} {r : ChannelRec} (h : r.Below (chanGet s.slip c)) :
    SlipBelow s (s.setChannel c r) := by
  intro ch
  rw [State.setChannel_slip]
  by_cases hc : ch = c
  · subst hc
    rw [chanGet_chanSet]
    exact h
  · rw [chanGet_chanSet_of_ne _ _ hc]
    exact .refl _

theorem State.force_below (s : State) (c : Channel) : SlipBelow s (s.force c) := by
  unfold State.force
  split
  · exact .of_slip rfl
  · exact (State.setChannel_below (forcedRecord_below _)).then_slip rfl

theorem State.giveUp_below (s : State) (m : Mode) : SlipBelow s (s.giveUp m) := by
  have h : SlipBelow s (s.setMode m).forceAll :=
    (((s.setMode m).force_below .ch1).trans (State.force_below _ .ch2)).after_slip (by simp)
  unfold State.giveUp
  dsimp only
  split
  · exact h.then_slip rfl
  · exact h

theorem State.toPassive_below (s : State) (code : Nat) : SlipBelow s (s.toPassive code) :=
  (s.giveUp_below _).then_slip rfl

theorem State.toLatched_below (s : State) (code : Nat) : SlipBelow s (s.toLatched code) :=
  (s.giveUp_below _).then_slip rfl

theorem State.moduleFault_below (s : State) (code : Nat) : SlipBelow s (s.moduleFault code) := by
  unfold State.moduleFault
  split
  case h_6 => exact s.toLatched_below code
  case h_7 => exact .of_slip rfl
  all_goals exact s.toPassive_below code

theorem State.forceWithAlert_below (s : State) (cause : ChannelCause) (c : Channel) :
    SlipBelow s (s.forceWithAlert cause c) := by
  unfold State.forceWithAlert
  split
  · exact .of_slip rfl
  · exact (s.force_below c).then_slip rfl

theorem State.channelFault_below (s : State) (cause : ChannelCause) (c : Channel) :
    SlipBelow s (s.channelFault cause c) := by
  unfold State.channelFault State.judgeUsable
  split
  · exact .of_slip rfl
  · split
    · exact s.forceWithAlert_below cause c
    · exact (s.forceWithAlert_below cause c).trans
        ((State.moduleFault_below ((s.forceWithAlert cause c).seeCause .allChannels) 13).after_slip rfl)

theorem State.channelLadder_below (s : State) (cause : ChannelCause) (c : Channel) :
    SlipBelow s (s.channelLadder cause c) := by
  unfold State.channelLadder
  split
  case h_5 =>
    exact (s.forceWithAlert_below cause c).trans
      ((State.toPassive_below ((s.forceWithAlert cause c).seeCause .promoted) 14).after_slip rfl)
  case h_6 => exact (State.toLatched_below (s.seeCause .promoted) 14).after_slip rfl
  case h_7 => exact .of_slip rfl
  all_goals exact s.channelFault_below cause c

theorem State.positionClash_below (s : State) : SlipBelow s s.positionClash := by
  unfold State.positionClash
  dsimp only
  split
  · exact .of_slip rfl
  · exact (State.toLatched_below (s.hand [moduleAlert .positionClash 12]) 12).after_slip rfl

theorem State.ladder_below (s : State) (n : Notice) : SlipBelow s (s.ladder n) := by
  cases n with
  | channelFault cause c marked =>
    cases marked
    · exact s.channelLadder_below cause c
    · exact .of_slip rfl
  | configBad => exact s.moduleFault_below 11
  | positionClash => exact s.positionClash_below
  | reversible c => exact .of_slip (by simp [State.ladder])
  | observation => exact .of_slip rfl

theorem State.takeNotice_below (s : State) (n : Notice) : SlipBelow s (s.takeNotice n) :=
  ((State.ladder_below (s.seeCause (noticeCause n)) n).after_slip rfl).then_slip (by simp [State.takeNotice])

theorem State.settleWorkingMode_below (s : State) : SlipBelow s s.settleWorkingMode := by
  unfold State.settleWorkingMode
  split
  case h_1 =>
    split
    · exact s.toLatched_below _
    · split <;> exact .of_slip (by simp)
  case h_2 =>
    split
    · exact s.toLatched_below _
    · exact .of_slip rfl
  all_goals exact .of_slip rfl

/-- The responder sets TEST and INACTIVE (R89). -/
theorem State.setPhase_below (s : State) (c : Channel) {p : Phase} (h : p = .test ∨ p = .inactive) :
    SlipBelow s (s.setPhase c p) := by
  refine (State.setChannel_below (ChannelRec.below_of_phase ?_ ?_ _)).then_slip rfl
  · rcases h with rfl | rfl <;> rfl
  · rcases h with rfl | rfl <;> exact nofun

theorem State.leaveTest_below (s : State) (c : Channel) : SlipBelow s (s.leaveTest c) := by
  unfold State.leaveTest
  split
  · exact s.setPhase_below c (.inr rfl)
  · exact .of_slip rfl

theorem State.takeAnswer_below (s : State) (accepted : Bool) : SlipBelow s (s.takeAnswer accepted) := by
  unfold State.takeAnswer State.startTest
  split
  case h_1 c _ =>
    split
    · split
      · exact (s.setPhase_below c (.inl rfl)).then_slip (by simp)
      · exact .of_slip (by simp)
    · exact .of_slip (by simp)
  all_goals exact .of_slip rfl

theorem State.takeStepExpiry_below (s : State) (t : Time) : SlipBelow s (s.takeStepExpiry t) := by
  unfold State.takeStepExpiry State.nextStep State.finishTest
  split
  case h_1 c _ _ _ =>
    split
    · split
      case h_3 =>
        split
        · exact (s.leaveTest_below c).then_slip (by simp)
        · exact .of_slip (by simp)
      all_goals exact .of_slip (by simp)
    · exact .of_slip rfl
  all_goals exact .of_slip rfl

theorem State.takeAbort_below (s : State) (a : AbortEvent) : SlipBelow s (s.takeAbort a) := by
  unfold State.takeAbort State.abortTest
  split
  case h_1 c _ _ _ =>
    have h : SlipBelow s (if abortFreesChannel a then s.leaveTest c else s) := by
      split
      · exact s.leaveTest_below c
      · exact .of_slip rfl
    refine h.then_slip ?_
    dsimp only
    split <;> simp
  all_goals exact .of_slip rfl

/-- A command that raises no channel record and writes no other block of the law keeps it. -/
theorem State.RangeLaw.of_below {s t : State} (hs : s.RangeLaw) (h : SlipBelow s t) (hstartup : t.startup = s.startup)
    (hpressure : t.pressure = s.pressure) (hview : t.view = s.view) : t.RangeLaw :=
  hs.of_slip (fun c => ⟨(h c).lawful (hs.channels c), fun hon => (h c).unstarted (hs.notStarted hon c)⟩)
    hstartup hpressure hview

/-! ## The channel records at a reference update (R63 to R85) -/

/-- A record in a phase that is neither RELEASE nor tracked: the plain ranges are the whole law. -/
theorem ChannelRec.Lawful.of_free {q : Params} {r : ChannelRec} (ht : isTracked r.phase = false) (hp : r.phase ≠ .release)
    (hlock : r.pLock ≤ 15000) (hcap : r.cap ≤ 16000) (hfalse : r.falseOnset ≤ 3) (hrelease : r.releaseCount ≤ q.tRelMax)
    (hstep : r.stepCount ≤ q.stepPeriod) : r.Lawful q :=
  ⟨hlock, ⟨hcap, fun h => by simp [ht] at h⟩, hfalse, ⟨hrelease, fun h => absurd h hp⟩, hstep⟩

/-- A record with its cap at most 15000 and not in RELEASE. -/
theorem ChannelRec.Lawful.of_cap {q : Params} {r : ChannelRec} (hp : r.phase ≠ .release)
    (hlock : r.pLock ≤ 15000) (hcap : r.cap ≤ 15000) (hfalse : r.falseOnset ≤ 3) (hrelease : r.releaseCount ≤ q.tRelMax)
    (hstep : r.stepCount ≤ q.stepPeriod) : r.Lawful q :=
  ⟨hlock, ⟨hcap.trans (by decide), fun _ => hcap⟩, hfalse, ⟨hrelease, fun h => absurd h hp⟩, hstep⟩

theorem awaitFault_below (r : ChannelRec) : (awaitFault r).Below r := by
  refine ⟨le_rfl, le_rfl, ?_, le_rfl, le_rfl, ?_, le_rfl⟩ <;> cases h : r.phase <;> simp [awaitFault, h, isTracked]

theorem endBraking_below (r : ChannelRec) : (endBraking r).Below r :=
  ⟨le_rfl, le_rfl, nofun, Nat.zero_le _, Nat.zero_le _, nofun, Nat.zero_le _⟩

theorem beginFollow_below (r : ChannelRec) : (beginFollow r).Below r :=
  ⟨le_rfl, le_rfl, nofun, Nat.zero_le _, Nat.zero_le _, nofun, Nat.zero_le _⟩

/-- FOLLOW below v_min is FOLLOW with its counts at 0, whether the cycle ends or not (R72). -/
theorem handBack_below (r : ChannelRec) : (handBack r).record.Below r := by
  unfold handBack
  dsimp only
  split
  · exact .refl r
  · split <;> exact beginFollow_below r

theorem evalStanding_below (r : ChannelRec) : (evalStanding r).record.Below r := by
  unfold evalStanding
  split
  · exact beginFollow_below r
  · exact .refl r

/-- A step due raises the cap by ΔP, and the step count starts again before it reaches the step period (R82). -/
theorem reapplyStep_ranges (q : Params) (r : ChannelRec) : 
    (reapplyStep q r).cap ≤ r.cap + q.deltaP ∧ (reapplyStep q r).stepCount ≤ q.stepPeriod := by
  unfold reapplyStep
  split
  · exact ⟨le_rfl, Nat.zero_le _⟩
  · exact ⟨Nat.le_add_right _ _, by dsimp only; omega⟩

@[simp] theorem reapplyStep_frame (q : Params) (r : ChannelRec) :
    (reapplyStep q r).phase = r.phase ∧ (reapplyStep q r).pLock = r.pLock ∧ (reapplyStep q r).falseOnset = r.falseOnset
      ∧ (reapplyStep q r).releaseCount = r.releaseCount := by
  unfold reapplyStep
  split <;> simp

section
variable {q : Params} {x : ChannelInput} {r : ChannelRec} (hr : r.Lawful q)
include hr

/-- A lock onset takes the chamber pressure as P_lock (R74). -/
theorem lockOnset_lawful (hpc : x.pc ≤ 15000) : (lockOnset x r).record.Lawful q :=
  .of_free rfl nofun hpc hr.cap.1 (Nat.zero_le _) hr.releaseCount.1 hr.stepCount

/-- An entry to CAPPED clamps the cap to Pd (R84). -/
theorem enterCapped_lawful (hpd : x.pd ≤ 15000) (cap : Nat) : (enterCapped x cap r).Lawful q :=
  .of_cap nofun hr.pLock ((Nat.min_le_right _ _).trans hpd) hr.falseOnset hr.releaseCount.1 hr.stepCount

theorem enterRelease_lawful (hq : q.InRange) : (enterRelease r).Lawful q :=
  ⟨hr.pLock, ⟨hr.cap.1, nofun⟩, hr.falseOnset, ⟨Nat.zero_le _, fun _ => Nat.lt_of_lt_of_le (Nat.succ_pos 39) hq.tRelMax.1⟩,
    hr.stepCount⟩

theorem evalFollow_lawful (hpc : x.pc ≤ 15000) (hpd : x.pd ≤ 15000) : (evalFollow q x r).record.Lawful q := by
  unfold evalFollow
  split
  · exact lockOnset_lawful hr hpc
  split
  · exact hr
  split
  · exact ⟨hr.pLock, hr.cap, hr.falseOnset, hr.releaseCount, hr.stepCount⟩
  all_goals
    split
    · exact hr
    · exact enterCapped_lawful hr hpd _

/-- A cap step leaves CAPPED once the cap has reached Pd, so that a cap that stands is below Pd (R85). -/
theorem evalCapped_lawful (hq : q.InRange) (hp : r.phase = .capped) (hpc : x.pc ≤ 15000) (hpd : x.pd ≤ 15000) :
    (evalCapped q x r).record.Lawful q := by
  have hcap : r.cap ≤ 15000 := hr.cap.2 (by rw [hp]; rfl)
  have hstep : q.yawStep ≤ 200 := hq.yaw.2.2
  unfold evalCapped
  split
  · exact lockOnset_lawful hr hpc
  split
  · exact .of_free rfl nofun hr.pLock hr.cap.1 hr.falseOnset hr.releaseCount.1 hr.stepCount
  split
  · exact .of_free rfl nofun hr.pLock (by dsimp only [silently]; omega) hr.falseOnset hr.releaseCount.1 hr.stepCount
  · exact .of_cap (by simp [silently, hp]) hr.pLock (by dsimp only [silently]; omega) hr.falseOnset hr.releaseCount.1
      hr.stepCount

theorem evalHold_lawful (hq : q.InRange) (hp : r.phase = .hold) : (evalHold q x r).record.Lawful q := by
  obtain ⟨ht, hn⟩ : isTracked r.phase = false ∧ r.phase ≠ .release := by simp [hp, isTracked]
  unfold evalHold
  split
  · exact enterRelease_lawful hr hq
  split
  · split
    · exact .of_free rfl nofun hr.pLock hr.cap.1 (Nat.zero_le _) hr.releaseCount.1 hr.stepCount
    · exact .of_free ht hn hr.pLock hr.cap.1 (by dsimp only [silently]; omega) hr.releaseCount.1 hr.stepCount
  · exact .of_free ht hn hr.pLock hr.cap.1 (Nat.zero_le _) hr.releaseCount.1 hr.stepCount

/-- The release count reaches T_rel_max only as the RELEASE is left for HOLD (R78). -/
theorem evalRelease_lawful (hp : r.phase = .release) : (evalRelease q x r).record.Lawful q := by
  have hcount := hr.releaseCount.2 hp
  unfold evalRelease
  split
  · exact .of_free rfl nofun hr.pLock hr.cap.1 hr.falseOnset hr.releaseCount.1 hr.stepCount
  split
  · exact .of_free rfl nofun hr.pLock hr.cap.1 hr.falseOnset hcount hr.stepCount
  · exact ⟨hr.pLock, hr.cap, hr.falseOnset, ⟨hcount, fun _ => by dsimp only [silently]; omega⟩, hr.stepCount⟩

theorem evalRecover_lawful (hq : q.InRange) (hpd : x.pd ≤ 15000) : (evalRecover q x r).record.Lawful q := by
  unfold evalRecover
  split
  · exact ⟨hr.pLock, hr.cap, hr.falseOnset, hr.releaseCount, hr.stepCount⟩
  split
  · exact enterRelease_lawful hr hq
  split
  · exact .of_cap nofun hr.pLock ((Nat.min_le_right _ _).trans hpd) hr.falseOnset hr.releaseCount.1 (Nat.zero_le _)
  · exact hr

/-- A cap step leaves REAPPLY once the cap has reached Pd, so that a cap that stands is below Pd (R82). -/
theorem evalReapply_lawful (hq : q.InRange) (hp : r.phase = .reapply) (hpc : x.pc ≤ 15000) (hpd : x.pd ≤ 15000) :
    (evalReapply q x r).record.Lawful q := by
  have hcap : r.cap ≤ 15000 := hr.cap.2 (by rw [hp]; rfl)
  have hdelta : q.deltaP ≤ 1000 := hq.deltaP.2
  obtain ⟨hraise, hcount⟩ := reapplyStep_ranges q r
  obtain ⟨-, hlock, hfalse, hrelease⟩ := reapplyStep_frame q r
  unfold evalReapply
  split
  · exact .of_free rfl nofun hpc hr.cap.1 (Nat.zero_le _) hr.releaseCount.1 hr.stepCount
  split
  · exact .of_free rfl nofun (hlock ▸ hr.pLock) (by dsimp only [withCycleEnd]; omega) (hfalse ▸ hr.falseOnset)
      (hrelease ▸ hr.releaseCount.1) hcount
  · exact .of_cap (by simp [silently, hp]) (hlock ▸ hr.pLock) (by dsimp only [silently]; omega)
      (hfalse ▸ hr.falseOnset) (hrelease ▸ hr.releaseCount.1) hcount

theorem evalByPhase_lawful (hq : q.InRange) (hpc : x.pc ≤ 15000) (hpd : x.pd ≤ 15000) :
    (evalByPhase q x r).record.Lawful q := by
  unfold evalByPhase
  split
  next => exact (beginFollow_below r).lawful hr
  next => exact evalFollow_lawful hr hpc hpd
  next h => exact evalCapped_lawful hr hq h hpc hpd
  next h => exact evalHold_lawful hr hq h
  next h => exact evalRelease_lawful hr h
  next => exact evalRecover_lawful hr hq hpd
  next h => exact evalReapply_lawful hr hq h hpc hpd
  all_goals exact hr

theorem evalChannel_lawful (hq : q.InRange) (full : Bool) (hpc : x.pc ≤ 15000) (hpd : x.pd ≤ 15000) :
    (evalChannel q full x r).record.Lawful q := by
  unfold evalChannel
  split
  · exact hr
  split
  · exact (awaitFault_below r).lawful hr
  split
  · split
    · exact hr
    · exact (endBraking_below r).lawful hr
  split
  · exact (handBack_below r).lawful hr
  split
  · exact evalByPhase_lawful hr hq hpc hpd
  · exact (evalStanding_below r).lawful hr

end

theorem State.evaluated_lawful {s : State} (hs : s.RangeLaw) (c : Channel) (u : RefUpdate) :
    (s.evaluated c u).record.Lawful s.params := by
  obtain ⟨-, -, hchambers⟩ := hs.sensors
  obtain ⟨hpc, -⟩ := hchambers c
  unfold State.evaluated
  split
  · split
    · exact hs.channels c
    · exact evalChannel_lawful (hs.channels c) hs.paramsInRange true hpc hs.pd
    · exact evalChannel_lawful (hs.channels c) hs.paramsInRange false hpc hs.pd
  · exact hs.channels c

theorem State.takeUpdate_rangeLaw {s : State} (hs : s.RangeLaw) (u : RefUpdate) : (s.takeUpdate u).RangeLaw := by
  unfold State.takeUpdate
  split
  · next hon =>
    refine hs.of_slip (fun c => ⟨?_, fun hoff => by simp [hon] at hoff⟩) rfl rfl rfl
    cases c
    · exact s.evaluated_lawful hs .ch1 u
    · exact s.evaluated_lawful hs .ch2 u
  · exact hs

/-! ## The entries of the peer table (R35, R38 to R48) -/

theorem Lane.inRange_mono {a b : Int} (hab : a ≤ b) {x : Lane} (h : x.inRange a) : x.inRange b := by
  obtain ⟨hspeed, hlow, hhigh⟩ := h
  exact ⟨hspeed, by omega, by omega⟩

/-- An entry that becomes LOST has its lanes and pressures cleared (R42). -/
theorem loseEntry_lawful {e : PeerEntry} (h : e.Lawful) : (loseEntry e).Lawful where
  vref := h.vref
  pressures := ⟨nofun, nofun⟩
  lanes i := by cases i <;> exact Lane.absent_inRange (by decide)
  heard := by simp [loseEntry]
  gone _ := ⟨rfl, rfl, fun i => by cases i <;> rfl⟩

/-- An entry that has been heard may be STALE (R41, R43). -/
theorem PeerEntry.Lawful.stale {e : PeerEntry} (h : e.Lawful) (heard : e.lastSeq.isSome = true ∧ e.accepted.isSome = true) :
    PeerEntry.Lawful { e with state := .stale } where
  vref := h.vref
  pressures := h.pressures
  lanes := h.lanes
  heard _ := heard
  gone := nofun

theorem staleEntry_lawful {e : PeerEntry} (h : e.Lawful) (t : Time) : (staleEntry e t).Lawful := by
  unfold staleEntry
  split
  · next hf => exact h.stale (h.heard (.inl hf.1))
  · exact h

theorem lostEntry_lawful {e : PeerEntry} (h : e.Lawful) (t : Time) : (lostEntry e t).Lawful := by
  unfold lostEntry
  split
  · exact loseEntry_lawful h
  · exact h

/-- Ageing leaves an EMPTY entry EMPTY (R41, R42). -/
theorem staleEntry_of_empty {e : PeerEntry} (h : e.state = .empty) (t : Time) : (staleEntry e t).state = .empty := by
  simp [staleEntry, h]

theorem lostEntry_of_empty {e : PeerEntry} (h : e.state = .empty) (t : Time) : (lostEntry e t).state = .empty := by
  simp [lostEntry, h]

theorem bitsOf_lt (n hi lo : Nat) : bitsOf n hi lo < 2 ^ (hi + 1 - lo) := Nat.mod_lt _ (Nat.two_pow_pos _)

theorem signedByte_bounds (b : Byte) : -128 ≤ signedByte b ∧ signedByte b ≤ 128 := by
  have hlow := BitVec.le_toInt b
  have hhigh := BitVec.toInt_lt (x := b)
  simp only [signedByte]
  omega

theorem pressureOfByte_le {b : Byte} {v : Nat} (h : pressureOfByte b = some v) : v ≤ 150 := by
  unfold pressureOfByte at h
  split at h
  · next hb => exact Option.some.inj h ▸ hb
  · cases h

/-- A lane as a STATUS carries it: a speed of 14 bits where present, an accel of one byte (R38, R197). -/
theorem carriedLane_inRange {present : Bool} {speed : Nat} (hspeed : speed < 2 ^ 14) (b : Byte) (code : LaneCode) :
    Lane.inRange 128 { speed := if present then some speed else none, accel := signedByte b, code := code } := by
  refine ⟨fun v hv => ?_, signedByte_bounds b⟩
  cases present
  · cases hv
  · have := Option.some.inj hv
    omega

/-- The entry an accepted STATUS writes keeps the law, whatever its payload (R38). -/
theorem acceptedEntry_lawful (payload : List Byte) (t : Time) : (acceptedEntry (decodeStatus payload) t).Lawful where
  vref := Nat.le_of_lt_succ (bitsOf_lt _ 47 34)
  pressures := ⟨fun _ h => pressureOfByte_le h, fun _ h => pressureOfByte_le h⟩
  lanes i := by
    cases i
    · exact carriedLane_inRange (bitsOf_lt _ 33 20) _ _
    · exact carriedLane_inRange (bitsOf_lt _ 19 6) _ _
  heard _ := ⟨rfl, rfl⟩
  gone := by simp [acceptedEntry]

/-- An entry that keeps the law and has been heard: what every alert entry leaves of the sender's entry. -/
structure PeerEntry.Heard (e : PeerEntry) : Prop where
  lawful : e.Lawful
  heard : e.lastSeq.isSome = true ∧ e.accepted.isSome = true

/-- The lanes with other phase codes (R46). -/
theorem PeerEntry.Heard.of_lanes {e : PeerEntry} (h : e.Heard) {x : Sides Lane}
    (hx : ∀ i, ∃ code, sideGet x i = { sideGet e.lanes i with code := code }) : PeerEntry.Heard { e with lanes := x } where
  lawful :=
    { vref := h.lawful.vref
      pressures := h.lawful.pressures
      lanes := fun i => by
        obtain ⟨code, e'⟩ := hx i
        dsimp only
        rw [e']
        exact h.lawful.lanes i
      heard := h.lawful.heard
      gone := fun hg => by
        obtain ⟨hdemand, hreservoir, hlanes⟩ := h.lawful.gone hg
        refine ⟨hdemand, hreservoir, fun i => ?_⟩
        obtain ⟨code, e'⟩ := hx i
        dsimp only
        rw [e']
        exact hlanes i }
  heard := h.heard

theorem writeLaneCode_heard {e : PeerEntry} (h : e.Heard) (channel : Nat) (code : LaneCode) :
    (writeLaneCode e channel code).Heard := by
  unfold writeLaneCode
  dsimp only
  split
  · exact h.of_lanes fun i => by cases i; exacts [⟨code, rfl⟩, ⟨_, rfl⟩]
  · exact h.of_lanes fun i => by cases i; exacts [⟨_, rfl⟩, ⟨code, rfl⟩]
  · exact h.of_lanes fun i => by cases i <;> exact ⟨code, rfl⟩
  · exact h

theorem writeMode_heard {e : PeerEntry} (h : e.Heard) (m : Mode) (t : Time) : (writeMode e m t).Heard := by
  have hmode : PeerEntry.Heard { e with mode := m } :=
    ⟨⟨h.lawful.vref, h.lawful.pressures, h.lawful.lanes, h.lawful.heard, h.lawful.gone⟩, h.heard⟩
  unfold writeMode
  dsimp only
  split
  · split
    · exact ⟨loseEntry_lawful hmode.lawful, h.heard⟩
    split
    · exact ⟨hmode.lawful.stale h.heard, h.heard⟩
    · exact hmode
  · exact hmode

theorem applyAlert_heard {e : PeerEntry} (h : e.Heard) (t : Time) (a : ReadAlert) : (applyAlert t e a).Heard := by
  unfold applyAlert
  split
  · exact h
  split
  · exact writeLaneCode_heard h _ _
  · exact writeMode_heard h _ t
  · exact h

theorem foldl_applyAlert_heard (t : Time) (alerts : List ReadAlert) :
    ∀ {e : PeerEntry}, e.Heard → (alerts.foldl (applyAlert t) e).Heard := by
  induction alerts with
  | nil => exact id
  | cons a alerts ih => exact fun h => ih (applyAlert_heard h t a)

/-! ## The peer table (R35, R36, R39) -/

/-- An entry replaced writes the peer table and the alone flag (R39, R49). -/
theorem State.replacePeer_view (s : State) (p : Position) (e : PeerEntry) : (s.replacePeer p e).view =
    { s.view with peers := quadSet s.view.peers p e, alone := (s.replacePeer p e).view.alone } := by
  unfold State.replacePeer
  split <;> rfl

/-- A lawful entry put in a place where one may stand, or an EMPTY one anywhere (R35). -/
theorem State.replacePeer_rangeLaw {s : State} (hs : s.RangeLaw) {p : Position} {e : PeerEntry} (h : e.Lawful)
    (hempty : s.Barred p → e.state = .empty) : (s.replacePeer p e).RangeLaw := by
  have hset : ∀ x, (quadGet (quadSet s.view.peers p e) x) = if x = p then e else quadGet s.view.peers x := fun x => by
    split
    · next hx => rw [hx, quadGet_quadSet]
    · next hx => exact quadGet_quadSet_of_ne _ _ hx
  refine hs.of_view ?_ ?_ (by simp) (by simp) (by simp)
  · rw [s.replacePeer_view]
    refine ⟨fun x => ?_, hs.vector, hs.vref⟩
    dsimp only
    rw [hset]
    split
    · exact h
    · exact hs.peers x
  · intro x hx
    rw [s.replacePeer_view]
    dsimp only
    rw [hset]
    split
    · next hxp => exact hempty (hxp ▸ hx)
    · exact hs.noEntry x hx

/-- R36 lets a frame go on from a position where an entry may stand only. -/
theorem State.judgeSender_not_barred {s : State} {sender : Fin 8} {ok : Bool} {p : Position} (hon : s.unitsOn = true)
    (h : s.judgeSender sender ok = .peer p) : ¬ s.Barred p := by
  unfold State.judgeSender at h
  split at h
  · split at h
    · cases h
    next hown =>
    split at h
    · cases h
    next hbelow =>
    split at h
    · obtain rfl := SenderCase.peer.inj h
      rintro (hoff | heq | hge)
      · simp [hon] at hoff
      · exact hown heq
      · exact hbelow hge
    · cases h
  · cases h

theorem State.acceptStatus_rangeLaw {s : State} (hs : s.RangeLaw) {p : Position} (hp : ¬ s.Barred p)
    (payload : List Byte) : (s.acceptStatus p (decodeStatus payload)).RangeLaw := by
  unfold State.acceptStatus
  split
  · exact (s.replacePeer_rangeLaw hs (acceptedEntry_lawful payload s.now) fun h => absurd h hp).of_frame rfl rfl rfl rfl
  · exact hs.of_frame rfl rfl rfl rfl

theorem State.rejectSender_rangeLaw {s : State} (hs : s.RangeLaw) (c : SenderCase) : (s.rejectSender c).RangeLaw :=
  hs.of_frame (by simp) (by simp) (by simp) (by simp)

theorem State.takeStatus_rangeLaw {s : State} (hs : s.RangeLaw) (sender : Fin 8) (payload : List Byte) :
    (s.takeStatus sender payload).RangeLaw := by
  unfold State.takeStatus
  split
  · next hon =>
    split
    · next hj => exact s.acceptStatus_rangeLaw hs (s.judgeSender_not_barred hon hj) payload
    · exact s.rejectSender_rangeLaw hs _
  · exact hs

theorem State.applyAlerts_rangeLaw {s : State} (hs : s.RangeLaw) {p : Position} (hp : ¬ s.Barred p)
    (alerts : List ReadAlert) : (s.applyAlerts p alerts).RangeLaw := by
  unfold State.applyAlerts
  dsimp only
  split
  · exact hs
  · exact hs
  next hempty hlost =>
  have hheard : (quadGet s.view.peers p).Heard := by
    refine ⟨hs.peers p, (hs.peers p).heard ?_⟩
    cases h : (quadGet s.view.peers p).state with
    | empty => exact absurd h hempty
    | fresh => exact .inl rfl
    | stale => exact .inr rfl
    | lost => exact absurd h hlost
  have h := (foldl_applyAlert_heard s.now alerts hheard).lawful
  exact (s.replacePeer_rangeLaw hs h fun hb => absurd hb hp).of_frame rfl rfl rfl rfl

theorem State.takeAlert_rangeLaw {s : State} (hs : s.RangeLaw) (sender : Fin 8) (payload : List Byte) :
    (s.takeAlert sender payload).RangeLaw := by
  unfold State.takeAlert
  split
  · next hon =>
    split
    · next hj => exact s.applyAlerts_rangeLaw hs (s.judgeSender_not_barred hon hj) _
    · exact s.rejectSender_rangeLaw hs _
  · exact hs

/-- A command that writes no more of the view unit than its marks: the alone flag and the missing timer. -/
theorem State.RangeLaw.of_marks {s t : State} (hs : s.RangeLaw) (hpeers : t.view.peers = s.view.peers)
    (hlanes : t.view.lanes = s.view.lanes) (hvref : t.view.vref = s.view.vref)
    (hcoasting : t.view.coasting = s.view.coasting) (hstartup : t.startup = s.startup)
    (hpressure : t.pressure = s.pressure) (hslip : t.slip = s.slip) : t.RangeLaw :=
  hs.of_view ⟨hpeers ▸ hs.peers, hlanes ▸ hs.vector, by rw [hvref, hcoasting]; exact hs.vref⟩
    (hpeers ▸ hs.noEntry) hstartup hpressure hslip

theorem State.expireMissing_rangeLaw {s : State} (hs : s.RangeLaw) (t : Time) : (s.expireMissing t).RangeLaw := by
  unfold State.expireMissing
  split
  · split
    · exact hs.of_marks rfl rfl rfl rfl rfl rfl rfl
    · exact hs
  · exact hs
  · exact hs

/-! ## The own lanes (R50, R51) -/

/-- A phase copied writes the code of a lane and keeps its speed and accel (R51). -/
theorem copyCode_lane (a : Arrangement) (c : Channel) (code : LaneCode) (x : Sides Lane) (i : Side) :
    ∃ y, sideGet (copyCode a c code x) i = { sideGet x i with code := y } := by
  cases a <;> cases c <;> cases i <;> exact ⟨_, rfl⟩

/-- The own lanes replaced by lanes in range. -/
theorem State.RangeLaw.of_ownLanes {s t : State} (hs : s.RangeLaw) {x : Sides Lane}
    (hx : ∀ i, (sideGet x i).inRange 16383)
    (hview : t.view = { s.view with lanes := quadSet s.view.lanes s.position x }) (hstartup : t.startup = s.startup)
    (hpressure : t.pressure = s.pressure) (hslip : t.slip = s.slip) : t.RangeLaw := by
  refine hs.of_view ?_ (hview ▸ hs.noEntry) hstartup hpressure hslip
  rw [hview]
  refine ⟨hs.peers, fun p i => ?_, hs.vref⟩
  by_cases hp : p = s.position
  · rw [hp, quadGet_quadSet]
    exact hx i
  · rw [quadGet_quadSet_of_ne _ _ hp]
    exact hs.vector p i

theorem State.copyPhase_rangeLaw {s : State} (hs : s.RangeLaw) (c : Channel) (phase : Phase) :
    (s.copyPhase c phase).RangeLaw := by
  unfold State.copyPhase
  split
  · refine hs.of_ownLanes (fun i => ?_) rfl rfl rfl rfl
    obtain ⟨y, h⟩ := copyCode_lane s.arrangement c (phaseLaneCode phase) s.ownLanes i
    rw [h]
    exact hs.vector s.position i
  · exact hs

theorem State.takeCopy_rangeLaw (s : State) (c : Instr) (hs : s.RangeLaw) : (s.takeCopy c).RangeLaw := by
  unfold State.takeCopy
  split
  · next ch phase =>
    have htaken : (s.take (.lanePhaseCopy ch phase)).RangeLaw := hs.of_frame rfl rfl rfl rfl
    exact State.copyPhase_rangeLaw htaken ch phase
  · exact hs

theorem State.takeCopies_rangeLaw {s : State} (hs : s.RangeLaw) : s.takeCopies.RangeLaw :=
  foldl_takeCopy State.takeCopy_rangeLaw s.handed s hs

/-! ## The reference update of the view unit (R50, R52 to R60) -/

/-- A well-formed sample gives a lane in range (R3, R50). -/
theorem fillOwn_inRange {x : Sample} (h : x.wf = true) (old : Lane) : (fillOwn x old).inRange 16383 := by
  obtain ⟨⟨⟨hspeed, hlow⟩, hhigh⟩, -⟩ : ((x.speed ≤ 16383 ∧ -16383 ≤ x.accel) ∧ x.accel ≤ 16383) ∧
      (x.state = .running ∨ x.speed = 0) := by simpa [Sample.wf] using h
  unfold fillOwn
  split
  · exact ⟨nofun, by simp, by simp⟩
  · exact ⟨fun v hv => Option.some.inj hv ▸ hspeed, hlow, hhigh⟩

/-- The lanes of an entry as the vector reads them (R52). -/
theorem vectorLanes_inRange {e : PeerEntry} (h : e.Lawful) (i : Side) : (sideGet (vectorLanes e) i).inRange 16383 := by
  have habsent : (sideGet (⟨Lane.absent, Lane.absent⟩ : Sides Lane) i).inRange 16383 := by
    cases i <;> exact Lane.absent_inRange (by decide)
  have hlane := Lane.inRange_mono (b := 16383) (by decide) (h.lanes i)
  unfold vectorLanes
  split
  · exact hlane
  · exact hlane
  · exact habsent
  · exact habsent

theorem State.filledVector_inRange {s : State} (hs : s.RangeLaw) {pair : Sides Sample} (h : samplePairWf pair = true)
    (p : Position) (i : Side) : (sideGet (quadGet (s.filledVector pair) p) i).inRange 16383 := by
  obtain ⟨hleft, hright⟩ : pair.left.wf = true ∧ pair.right.wf = true := by simpa [samplePairWf] using h
  unfold State.filledVector
  by_cases hp : p = s.position
  · rw [hp, quadGet_quadSet]
    cases i
    · exact fillOwn_inRange hleft _
    · exact fillOwn_inRange hright _
  · rw [quadGet_quadSet_of_ne _ _ hp]
    have hpeer := vectorLanes_inRange (hs.peers p) i
    rcases quad_cases p with rfl | rfl | rfl | rfl <;> exact hpeer

theorem State.fillLanes_rangeLaw {s : State} (hs : s.RangeLaw) {pair : Sides Sample} (h : samplePairWf pair = true) :
    (s.fillLanes pair).RangeLaw :=
  hs.of_view ⟨hs.peers, s.filledVector_inRange hs h, hs.vref⟩ hs.noEntry rfl rfl rfl

/-- A candidate's speed is the speed of a lane of the vector (R54). -/
theorem laneCandidate_speed {p : Position} {ok : Bool} {l : Lane} {c : Candidate} (h : c ∈ laneCandidate p ok l) :
    l.speed = some c.speed := by
  unfold laneCandidate at h
  split at h
  · next v hv =>
    split at h
    · obtain rfl := List.mem_singleton.1 h
      exact hv
    · cases h
  · cases h

theorem State.candidatesAt_speed {s : State} {p : Position} {c : Candidate} (h : c ∈ s.candidatesAt p) :
    ∃ i, (sideGet (quadGet s.view.lanes p) i).speed = some c.speed := by
  unfold State.candidatesAt at h
  dsimp only at h
  split at h
  all_goals
    rcases List.mem_append.1 h with h | h
    · exact ⟨.left, laneCandidate_speed h⟩
    · exact ⟨.right, laneCandidate_speed h⟩

theorem State.candidates_speed_le {s : State} (hs : s.RangeLaw) : ∀ c ∈ s.candidates, c.speed ≤ 16383 := by
  intro c hc
  obtain ⟨p, -, hp⟩ := List.mem_flatMap.1 hc
  obtain ⟨i, hi⟩ := State.candidatesAt_speed hp
  exact (hs.vector p i).1 _ hi

theorem highestSpeed_mem {xs : List Nat} {v : Nat} (h : highestSpeed xs = some v) : v ∈ xs := by
  have e : highestSpeed xs = xs.max? := by cases xs <;> rfl
  exact List.max?_mem (e ▸ h)

theorem lowest_mem {xs : List Nat} {v : Nat} (h : lowest xs = some v) : v ∈ xs := by
  have e : lowest xs = xs.min? := by cases xs <;> rfl
  exact List.min?_mem (e ▸ h)

/-- The candidate value is the speed of a candidate (R55). -/
theorem candidateValue_mem {braking : Bool} {free : BitVec 4} {cs : List Candidate} {v : Nat}
    (h : candidateValue braking free cs = some v) : ∃ c ∈ cs, c.speed = v := by
  unfold candidateValue at h
  split at h
  · exact List.mem_map.1 (highestSpeed_mem h)
  split at h
  · next w hw =>
    obtain ⟨c, hc, hcv⟩ := List.mem_map.1 (highestSpeed_mem hw)
    exact ⟨c, (List.mem_filter.1 hc).1, hcv.trans (Option.some.inj h)⟩
  · exact List.mem_map.1 (lowest_mem h)

/-- The ramp leaves vref between its old value and the candidate value, or lowers it (R56, R57, R59). -/
theorem rampedVref_le {q : Params} {first : Bool} {prev coasting bound : Nat} {value : Option Nat}
    (hprev : prev ≤ bound) (hvalue : ∀ v, value = some v → v ≤ bound) :
    (rampedVref q first prev coasting value).1 ≤ bound ∧ (rampedVref q first prev coasting value).2 ≤ 255 := by
  unfold rampedVref
  split
  · exact ⟨hvalue _ rfl, Nat.zero_le _⟩
  · exact ⟨Nat.zero_le _, by decide⟩
  · have := hvalue _ rfl
    exact ⟨by dsimp only; omega, Nat.zero_le _⟩
  · exact ⟨by dsimp only; omega, Nat.min_le_left _ _⟩

/-- The peer floor lifts vref to no more than a reported vref (R58). -/
theorem peerFloor_le {tolerance vref bound : Nat} {reported : Option Nat} (hvref : vref ≤ bound)
    (hreported : ∀ r, reported = some r → r ≤ bound) : peerFloor tolerance vref reported ≤ bound := by
  unfold peerFloor
  split
  · have := hreported _ rfl
    split <;> omega
  · exact hvref

theorem State.freshVrefs_le {s : State} (hs : s.RangeLaw) : ∀ v ∈ s.freshVrefs, v ≤ 16383 := by
  intro v hv
  obtain ⟨p, -, hp⟩ := List.mem_filterMap.1 hv
  split at hp
  · exact Option.some.inj hp ▸ (hs.peers p).vref
  · cases hp

theorem State.nextVref_le {s : State} (hs : s.RangeLaw) : s.nextVref.1 ≤ 16383 ∧ s.nextVref.2 ≤ 255 := by
  have hvalue : ∀ v, candidateValue s.pressure.braking s.params.freeRolling s.candidates = some v → v ≤ 16383 := by
    intro v hv
    obtain ⟨c, hc, rfl⟩ := candidateValue_mem hv
    exact s.candidates_speed_le hs c hc
  obtain ⟨hvref, hcoasting⟩ := rampedVref_le (q := s.params) (first := s.view.firstWindow) (coasting := s.view.coasting)
    hs.vref.1 hvalue
  exact ⟨peerFloor_le hvref fun r hr => s.freshVrefs_le hs r (highestSpeed_mem hr), hcoasting⟩

theorem State.computeView_rangeLaw {s : State} (hs : s.RangeLaw) : s.computeView.RangeLaw :=
  hs.of_view ⟨hs.peers, hs.vector, s.nextVref_le hs⟩ hs.noEntry rfl rfl rfl

theorem State.takePair_rangeLaw {s : State} (hs : s.RangeLaw) {pair : Sides Sample} (h : samplePairWf pair = true) :
    (s.takePair pair).RangeLaw := by
  unfold State.takePair
  split
  · exact (State.computeView_rangeLaw (s.fillLanes_rangeLaw hs h)).of_frame (by simp) (by simp) (by simp) (by simp)
  · exact hs

/-! ## The start (R178, R180, R182 to R187) -/

theorem paramsInForce_inRange (bs : List Byte) (p : Position) : (paramsInForce bs p).InRange := by
  unfold paramsInForce
  split
  · exact settleParams_inRange _
  · exact defaultParams_inRange

/-- The start sequence gives the position while the peer table is EMPTY throughout (R35, R180). -/
theorem State.beginStart_rangeLaw {s : State} (hs : s.RangeLaw) (x : Straps) : (s.beginStart x).RangeLaw := by
  by_cases hstage : s.startup.stage = .heldInReset
  · have hoff : s.unitsOn = false := by simp [State.unitsOn, hstage]
    rw [State.beginStart, if_pos hstage]
    exact ⟨hs.params, hs.sensors, hs.pd, hs.peers, fun p _ => hs.noEntry p (.inl hoff), hs.vector, hs.vref, hs.channels,
      fun _ => hs.notStarted hoff⟩
  · rw [s.beginStart_void x hstage]
    exact hs

/-- A record that has counted nothing keeps the law under any parameters. -/
theorem ChannelRec.Lawful.of_unstarted {q q' : Params} {r : ChannelRec} (h : r.Lawful q) (hr : r.Unstarted) :
    r.Lawful q' := by
  obtain ⟨hfalse, hrelease, hstep, hphase⟩ := hr
  exact ⟨h.pLock, h.cap, h.falseOnset, ⟨by omega, fun hp => absurd hp hphase⟩, by omega⟩

/-- The read completion settles the parameters before anything has been counted against them (R183, R184, R187). -/
theorem State.completeRead_rangeLaw {s : State} (hs : s.RangeLaw) (t : Time) (bs : List Byte) :
    (s.completeRead t bs).RangeLaw := by
  by_cases hstage : s.startup.stage = .reading
  · have hoff : s.unitsOn = false := by simp [State.unitsOn, hstage]
    rw [s.completeRead_reading t bs hstage]
    exact ⟨fun q hq => Option.some.inj hq ▸ paramsInForce_inRange bs s.position, hs.sensors, hs.pd, hs.peers,
      fun p _ => hs.noEntry p (.inl hoff), hs.vector, hs.vref,
      fun c => (hs.channels c).of_unstarted (hs.notStarted hoff c), fun hoff' => by cases hoff'⟩
  · rw [s.completeRead_void t bs hstage]
    exact hs

theorem State.takeNotice_rangeLaw {s : State} (hs : s.RangeLaw) (n : Notice) : (s.takeNotice n).RangeLaw :=
  hs.of_below (s.takeNotice_below n) (by simp) (by simp) (by simp)

theorem State.raiseConfigBad_rangeLaw {s : State} (hs : s.RangeLaw) : s.raiseConfigBad.RangeLaw := by
  unfold State.raiseConfigBad
  split
  · exact State.takeCopies_rangeLaw (s.takeNotice_rangeLaw hs .configBad)
  · exact hs

theorem State.endListen_rangeLaw {s : State} (hs : s.RangeLaw) (t : Time) : (s.endListen t).RangeLaw := by
  unfold State.endListen
  split
  · next h =>
    obtain ⟨hstage, -⟩ : s.startup.stage = .listening ∧ timerDue s.startup.listenTimer t = true := by simpa using h
    refine (s.raiseConfigBad_rangeLaw hs).of_stage rfl rfl ?_ rfl rfl rfl
    simp [State.unitsOn, State.beginReporting, hstage]
  · exact hs

theorem State.endStarting_rangeLaw {s : State} (hs : s.RangeLaw) (t : Time) : (s.endStarting t).RangeLaw := by
  unfold State.endStarting
  split
  · next h =>
    obtain ⟨hstage, -⟩ : s.startup.stage = .reporting ∧ timerDue s.startup.startingTimer t = true := by simpa using h
    refine hs.of_stage rfl rfl ?_ rfl rfl rfl
    simp [State.unitsOn, hstage]
  · exact hs

/-! ## Every command keeps the range law -/

/-- Both resets leave the blocks of the law at their reset values (R34, R62, R63, R178, R179). -/
theorem State.powerOn_rangeLaw (s : State) : s.powerOn.RangeLaw := State.reset_rangeLaw.of_frame rfl rfl rfl rfl

theorem State.warmRestart_rangeLaw (s : State) : s.warmRestart.RangeLaw := State.reset_rangeLaw.of_frame rfl rfl rfl rfl

theorem exec_reset_rangeLaw {c : Instr} {s t : State} (hreset : isResetCommand c = true) (hs : s.RangeLaw)
    (h : exec c s = .next t) : t.RangeLaw := by
  cases c
  case powerOnReset => exact Host.Outcome.next.inj h ▸ s.powerOn_rangeLaw
  case brownOutExpiry m =>
    obtain rfl := Host.Outcome.next.inj h
    unfold State.brownOut
    split
    · exact State.warmRestart_rangeLaw _
    · exact hs.of_frame rfl rfl rfl rfl
  case replySuccessNotice | restartTimerExpiry =>
    obtain rfl := Host.Outcome.next.inj h
    split
    · exact s.warmRestart_rangeLaw
    · exact hs.of_frame rfl rfl rfl rfl
  all_goals cases hreset

theorem exec_keeps_rangeLaw {c : Instr} {s t : State} (hwf : c.wf = true) (hs : s.RangeLaw) (h : exec c s = .next t) :
    t.RangeLaw := by
  by_cases hreset : isResetCommand c = true
  · exact exec_reset_rangeLaw hreset hs h
  have htake : ∀ d, (s.take d).RangeLaw := fun d => hs.of_frame rfl rfl rfl rfl
  have hstamp : ∀ m, (s.stamp m).RangeLaw := fun m => hs.of_frame rfl rfl rfl rfl
  cases c
  case powerOnReset | brownOutExpiry | replySuccessNotice | restartTimerExpiry => exact absurd rfl hreset
  all_goals obtain rfl := Host.Outcome.next.inj h
  case startSequence x => exact s.beginStart_rangeLaw hs x
  case readCompletion m bs => exact State.completeRead_rangeLaw (hstamp m) m bs
  case listenExpiry m => exact State.endListen_rangeLaw (hstamp m) m
  case startingExpiry m => exact State.endStarting_rangeLaw (hstamp m) m
  case endOfStarting =>
    split
    · have hmode := (htake .endOfStarting).of_below (State.settleWorkingMode_below _) (by simp) (by simp) (by simp)
      exact hmode.of_marks rfl rfl rfl rfl rfl rfl rfl
    · exact htake _
  case pressureSample m codes => exact State.takePressureSample_rangeLaw (hstamp m) m codes
  case samplePeriodChange into => exact State.takeInTurn_of hs (State.changeSamplePeriod_rangeLaw (htake _) into)
  case missingTimerExpiry m => exact State.expireMissing_rangeLaw (hstamp m) m
  case samplePair pair => exact State.takePair_rangeLaw (htake _) hwf
  case statusReceived sender payload => exact State.takeStatus_rangeLaw (htake _) sender payload
  case alertReceived sender payload => exact State.takeAlert_rangeLaw (htake _) sender payload
  case staleExpiry m p =>
    exact State.replacePeer_rangeLaw (hstamp m) (staleEntry_lawful (hs.peers p) m)
      fun hb => staleEntry_of_empty ((hstamp m).noEntry p hb) m
  case lostExpiry m p =>
    exact State.replacePeer_rangeLaw (hstamp m) (lostEntry_lawful (hs.peers p) m)
      fun hb => lostEntry_of_empty ((hstamp m).noEntry p hb) m
  case lanePhaseCopy ch phase => exact State.takeInTurn_of hs (State.copyPhase_rangeLaw (htake _) ch phase)
  case referenceUpdate u => exact State.takeUpdate_rangeLaw (htake _) u
  case faultNotice n =>
    split
    · exact State.takeNotice_rangeLaw (htake _) n
    · exact htake _
  case serviceAnswer a => exact (htake _).of_below (State.takeAnswer_below _ a) (by simp) (by simp) (by simp)
  case stepTimerExpiry m => exact (hstamp m).of_below (State.takeStepExpiry_below _ m) (by simp) (by simp) (by simp)
  case abortEvent a =>
    exact State.takeInTurn_of hs ((htake _).of_below (State.takeAbort_below _ a) (by simp) (by simp) (by simp))
  case alertHanded k ch v =>
    refine State.takeInTurn_of hs ?_
    split <;> exact hs.of_frame (by simp) (by simp) (by simp) (by simp)
  case phaseHandoff | capStepHandoff | modeChangeToDriver | quietReportChange =>
    exact State.takeInTurn_of hs (hs.of_frame (by simp) (by simp) (by simp) (by simp))
  case causeCleared | quietEntry | quietExit | serviceEntry | serviceExit =>
    split <;> exact hs.of_frame (by simp) (by simp) (by simp) (by simp)
  all_goals exact hs.of_frame (by simp) (by simp) (by simp) (by simp)

/-- Settles O7: every command keeps the law by the one block it writes, the start and the resets by their own lemmas. -/
theorem stepKeepsRangeLaw : Obligations.StepKeepsRangeLaw := by
  intro s t hwf hs h
  unfold step at h
  split at h
  · obtain rfl := Host.Outcome.next.inj h
    exact hs
  · next c rest hpending =>
    refine exec_keeps_rangeLaw (hwf c (by rw [hpending]; rfl)) ?_ h
    exact hs.of_frame rfl rfl rfl rfl

end Sys2Proof.Machine

namespace Sys2Proof.Machine

/-! ## STATUS and ALERT payloads (R38, R134 to R136, R139, R141, R197) -/

theorem bitsOf_eq (n hi lo : Nat) : bitsOf n hi lo = n / 2 ^ lo % 2 ^ (hi + 1 - lo) := by
  rw [bitsOf, Nat.shiftRight_eq_div_pow]

theorem flagAt_eq (b : Bool) (k : Nat) : flagAt b k = 2 ^ k * b.toNat := by cases b <;> simp [flagAt]

theorem natByte_toNat (n : Nat) : (natByte n).toNat = n % 256 := BitVec.toNat_ofNat ..

/-- Six bytes of a number, most significant first (12, opening). -/
theorem natBytes_six (n : Nat) : natBytes 6 n = [natByte (n / 1099511627776), natByte (n / 4294967296),
    natByte (n / 16777216), natByte (n / 65536), natByte (n / 256), natByte n] := by
  simp [natBytes, List.range_succ, Nat.shiftRight_eq_div_pow]

/-- The number six bytes hold, most significant first (12, opening). -/
theorem bytesNat_six (bs : List Byte) (i : Nat) : bytesNat bs i 6 =
    (byteAt bs i).toNat * 1099511627776 + (byteAt bs (i + 1)).toNat * 4294967296 + (byteAt bs (i + 2)).toNat * 16777216
      + (byteAt bs (i + 3)).toNat * 65536 + (byteAt bs (i + 4)).toNat * 256 + (byteAt bs (i + 5)).toNat := by
  simp only [bytesNat, List.range_succ, List.range_zero, List.nil_append, List.foldl_append, List.foldl_cons,
    List.foldl_nil, Nat.add_zero]
  ring

/-! ### Codes -/

theorem modeOfCode_modeCode (m : Mode) : modeOfCode (modeCode m) = m := by cases m <;> rfl

theorem modeCode_lt (m : Mode) : modeCode m < 7 := by cases m <;> decide

theorem laneCodeOf_laneCodeNat (c : LaneCode) : laneCodeOf (laneCodeNat c) = c := by cases c <;> rfl

theorem laneCodeNat_lt (c : LaneCode) : laneCodeNat c < 8 := by cases c <;> decide

/-- The mode codes of section 12.2 (R136). -/
theorem modeCode_eq {m : Mode} {n : Nat} (h : (m, n) ∈ [(Mode.starting, 0), (.active, 1), (.quiet, 2), (.service, 3),
    (.held, 4), (.passive, 5), (.latched, 6)]) : modeCode m = n := by
  cases m <;> simpa [modeCode, eq_comm] using h

/-- The mode codes as a receiver reads them, 7 as PASSIVE (R38). -/
theorem modeOfCode_eq {m : Mode} {n : Nat} (h : (n, m) ∈ [(0, Mode.starting), (1, .active), (2, .quiet), (3, .service),
    (4, .held), (5, .passive), (6, .latched), (7, .passive)]) : modeOfCode n = m := by
  have hcodes : ∀ x ∈ [(0, Mode.starting), (1, .active), (2, .quiet), (3, .service), (4, .held), (5, .passive),
      (6, .latched), (7, .passive)], modeOfCode x.1 = x.2 := by decide
  exact hcodes _ h

/-- The phase codes of the link (R35, R136). -/
theorem laneCodeNat_eq {c : LaneCode} {n : Nat} (h : (c, n) ∈ [(LaneCode.openLane, 0), (.capped, 1), (.hold, 2),
    (.release, 3), (.recover, 4), (.reapply, 5), (.passive, 6), (.test, 7)]) : laneCodeNat c = n := by
  cases c <;> simpa [laneCodeNat, eq_comm] using h

/-- The alert kind codes of section 12.3 (R139). -/
theorem alertKindCode_eq {k : AlertKind} {n : Nat} (h : (k, n) ∈ [(AlertKind.lockOnset, 1), (.cycleEnd, 2),
    (.channelPassive, 3), (.moduleHeld, 4), (.modulePassive, 5), (.moduleLatched, 6), (.moduleRecovered, 7),
    (.positionClash, 8)]) : alertKindCode k = n := by
  cases k <;> simpa [alertKindCode, eq_comm] using h

/-- The channel codes of section 12.3. -/
theorem channelCode_eq {c : Option Channel} {n : Nat}
    (h : (c, n) ∈ [(none, 0), (some Channel.ch1, 1), (some .ch2, 2)]) : channelCode c = n := by
  rcases c with _ | _ | _ <;> simpa [channelCode, eq_comm] using h

/-- The side codes of section 12.3. -/
theorem alertSideCode_eq {x : AlertSide} {n : Nat}
    (h : (x, n) ∈ [(AlertSide.none, 0), (.left, 1), (.right, 2), (.both, 3)]) : alertSideCode x = n := by
  cases x <;> simpa [alertSideCode, eq_comm] using h

/-! ### A STATUS as sent (R134, R135, R197) -/

/-- The 48-bit field as section 12.2 places its parts, the speeds in their 14 bits. -/
theorem statusField48_eq {r : StatusReport} (hvref : r.vref ≤ 16383) (hleft : ∀ v, r.left.speed = some v → v ≤ 16383)
    (hright : ∀ v, r.right.speed = some v → v ≤ 16383) : statusField48 r =
      r.vref * 17179869184 + r.left.speed.getD 0 * 1048576 + r.right.speed.getD 0 * 64 + laneCodeNat r.left.code * 8
        + laneCodeNat r.right.code := by
  have hspeed : ∀ {x : Option Nat}, (∀ v, x = some v → v ≤ 16383) → x.getD 0 % 2 ^ 14 = x.getD 0 := by
    intro x hx
    cases x with
    | none => rfl
    | some v => exact Nat.mod_eq_of_lt (Nat.lt_succ_of_le (hx v rfl))
  have hvref' : r.vref % 2 ^ 14 = r.vref := Nat.mod_eq_of_lt (by omega)
  rw [statusField48, hspeed hleft, hspeed hright, hvref']
  rfl

theorem accelByte_eq {a : Int} (hlow : -128 ≤ a) (hhigh : a ≤ 127) : accelByte a = BitVec.ofInt 8 a := by
  rw [accelByte, min_eq_right hhigh, max_eq_right hlow]

theorem pressureByte_eq (p : Option Nat) : pressureByte p = natByte (p.getD 255) := by cases p <;> rfl

/-- The 13 bytes of a STATUS. -/
theorem encodeStatus_eq (seq : Byte) (r : StatusReport) : encodeStatus seq r = [seq, natByte (statusByte1 r),
    natByte (statusByte2 r), natByte (statusField48 r / 1099511627776), natByte (statusField48 r / 4294967296),
    natByte (statusField48 r / 16777216), natByte (statusField48 r / 65536), natByte (statusField48 r / 256),
    natByte (statusField48 r), accelByte r.left.accel, accelByte r.right.accel, pressureByte r.demand,
    pressureByte r.reservoir] := by
  rw [encodeStatus, natBytes_six]
  rfl

/-! ### A STATUS as read (R38, R197) -/

theorem signedByte_eq (b : Byte) : signedByte b = if b.toNat < 128 then (b.toNat : Int) else b.toNat - 256 := by
  rw [signedByte, BitVec.toInt_eq_toNat_cond]
  split <;> split <;> omega

/-- A STATUS read by the byte its mode, flags and presence stand in and the number its bytes 3 to 8 hold. -/
theorem decodeStatus_eq {p : List Byte} {b1 f : Nat} (hb1 : (byteAt p 1).toNat = b1) (hf : bytesNat p 3 6 = f) :
    decodeStatus p =
      { seq := byteAt p 0, mode := modeOfCode (b1 / 32 % 8), arrangement := if b1 / 16 % 2 = 1 then .joined else .split
        vref := f / 17179869184 % 16384, demand := pressureOfByte (byteAt p 11)
        reservoir := pressureOfByte (byteAt p 12)
        lanes := ⟨⟨if b1 / 2 % 2 = 1 then some (f / 1048576 % 16384) else none, signedByte (byteAt p 9),
            laneCodeOf (f / 8 % 8)⟩,
          ⟨if b1 % 2 = 1 then some (f / 64 % 16384) else none, signedByte (byteAt p 10), laneCodeOf (f % 8)⟩⟩ } := by
  simp only [decodeStatus, hb1, hf, bitsOf_eq, Nat.testBit_eq_decide_div_mod_eq, decide_eq_true_eq]
  norm_num

/-- The parts of byte 1, read where they were written. -/
theorem statusByte1_parts (r : StatusReport) : statusByte1 r < 256 ∧ statusByte1 r / 32 = modeCode r.mode
    ∧ (statusByte1 r / 16 % 2 = 1 ↔ r.arrangement = .joined) ∧ (statusByte1 r / 2 % 2 = 1 ↔ r.left.speed.isSome = true)
    ∧ (statusByte1 r % 2 = 1 ↔ r.right.speed.isSome = true) := by
  have hbit : ∀ b : Bool, b = true ↔ b.toNat = 1 := by decide
  have hmode := modeCode_lt r.mode
  have harr : r.arrangement = .joined ↔ (r.arrangement == .joined).toNat = 1 := by cases r.arrangement <;> decide
  have h3 := (r.arrangement == .joined).toNat_le
  have h4 := r.demand.isSome.toNat_le
  have h5 := r.reservoir.isSome.toNat_le
  have h6 := r.left.speed.isSome.toNat_le
  have h7 := r.right.speed.isSome.toNat_le
  rw [harr, hbit, hbit r.right.speed.isSome]
  simp only [statusByte1, flagAt_eq]
  omega

theorem pressureOfByte_pressureByte {p : Option Nat} (h : ∀ v, p = some v → v ≤ 150) :
    pressureOfByte (pressureByte p) = p := by
  cases p with
  | none => rfl
  | some v =>
    have hv : v % 256 = v := Nat.mod_eq_of_lt (by have := h v rfl; omega)
    simp [pressureOfByte, pressureByte, natByte_toNat, hv, h v rfl]

theorem signedByte_accelByte {a : Int} (hlow : -128 ≤ a) (hhigh : a ≤ 127) : signedByte (accelByte a) = a := by
  rw [accelByte_eq hlow hhigh, signedByte, BitVec.toInt_ofInt, Int.bmod_eq_of_le] <;> omega

/-- The number that bytes 3 to 8 of a sent STATUS hold is the 48-bit field. -/
theorem bytesNat_encodeStatus {seq : Byte} {r : StatusReport} (h : statusField48 r < 281474976710656) :
    bytesNat (encodeStatus seq r) 3 6 = statusField48 r := by
  rw [bytesNat_six, encodeStatus_eq]
  simp only [byteAt, List.getD_cons_succ, List.getD_cons_zero, natByte_toNat]
  omega

/-- A lane is read as it was sent: its speed where it is present (R38, R197). -/
theorem speed_read {x : Option Nat} {n : Nat} {P : Prop} [Decidable P] (hP : P ↔ x.isSome = true) (hn : n = x.getD 0) :
    (if P then some n else none) = x := by
  subst hn
  cases x <;> simp [hP]

/-- A STATUS read back is the STATUS composed (R38, R134 to R136, R197). -/
theorem decodeStatus_encodeStatus (seq : Byte) {r : StatusReport} (hvref : r.vref ≤ 16383)
    (hleft : ∀ v, r.left.speed = some v → v ≤ 16383) (hright : ∀ v, r.right.speed = some v → v ≤ 16383)
    (hleftLow : -128 ≤ r.left.accel) (hleftHigh : r.left.accel ≤ 127) (hrightLow : -128 ≤ r.right.accel)
    (hrightHigh : r.right.accel ≤ 127) (hdemand : ∀ v, r.demand = some v → v ≤ 150)
    (hreservoir : ∀ v, r.reservoir = some v → v ≤ 150) :
    decodeStatus (encodeStatus seq r)
      = { seq := seq, mode := r.mode, arrangement := r.arrangement, vref := r.vref, demand := r.demand,
          reservoir := r.reservoir, lanes := ⟨r.left, r.right⟩ } := by
  have hspeed : ∀ {x : Option Nat}, (∀ v, x = some v → v ≤ 16383) → x.getD 0 ≤ 16383 := by
    intro x hx
    cases x with
    | none => exact Nat.zero_le _
    | some v => exact hx v rfl
  have hl := hspeed hleft
  have hr := hspeed hright
  have hcl := laneCodeNat_lt r.left.code
  have hcr := laneCodeNat_lt r.right.code
  have hmode := modeCode_lt r.mode
  have hfield := statusField48_eq hvref hleft hright
  obtain ⟨hbyte, hm, harr, hpl, hpr⟩ := statusByte1_parts r
  have hb1 : (byteAt (encodeStatus seq r) 1).toNat = statusByte1 r := by
    rw [encodeStatus_eq]
    exact (natByte_toNat _).trans (Nat.mod_eq_of_lt hbyte)
  rw [decodeStatus_eq hb1 (bytesNat_encodeStatus (by omega)), speed_read hpl (by omega), speed_read hpr (by omega),
    show statusByte1 r / 32 % 8 = modeCode r.mode by omega, modeOfCode_modeCode,
    show statusField48 r / 8 % 8 = laneCodeNat r.left.code by omega, laneCodeOf_laneCodeNat,
    show statusField48 r % 8 = laneCodeNat r.right.code by omega, laneCodeOf_laneCodeNat,
    show statusField48 r / 17179869184 % 16384 = r.vref by omega, encodeStatus_eq]
  have harr' : (if statusByte1 r / 16 % 2 = 1 then Arrangement.joined else .split) = r.arrangement := by
    cases ha : r.arrangement <;> simp [harr, ha]
  simp [byteAt, harr', pressureOfByte_pressureByte hdemand, pressureOfByte_pressureByte hreservoir,
    signedByte_accelByte hleftLow hleftHigh, signedByte_accelByte hrightLow hrightHigh]

/-- Settles O31: the bytes sent, the reading back of a STATUS, the reading of any 13 bytes, and an alert's bytes. -/
theorem statusPayloadReadsBack : Obligations.StatusPayloadReadsBack := by
  refine ⟨?_, ?_, ?_, rfl⟩
  · intro seq r hvref hleft hright hll hlh hrl hrh hdemand hreservoir
    refine ⟨by rw [encodeStatus_eq]; rfl,
      decodeStatus_encodeStatus seq hvref hleft hright hll hlh hrl hrh hdemand hreservoir, ?_⟩
    intro b mode codeL codeR f bit hb hbit hmode hcode hf
    obtain rfl : b = natByte := funext hb
    have hbit' : ∀ x k, flagAt x k = bit x (2 ^ k) := fun x k => (hbit x _).symm
    have hfield : statusField48 r = f := by
      rw [statusField48_eq hvref hleft hright, laneCodeNat_eq (hcode _ _ (.inl ⟨rfl, rfl⟩)),
        laneCodeNat_eq (hcode _ _ (.inr ⟨rfl, rfl⟩)), hf]
    rw [encodeStatus_eq, hfield, accelByte_eq hll hlh, accelByte_eq hrl hrh, pressureByte_eq, pressureByte_eq,
      statusByte1, statusByte2, modeCode_eq hmode]
    simp [hbit', hbit (r.arrangement == .joined)]
  · intro p n f accel pressure mode codeL codeR hlen hn hf haccel hpressure hmode hcode
    have hbyte : ∀ i, n i < 256 := fun i => hn i ▸ (byteAt p i).isLt
    have hfield : bytesNat p 3 6 = f := by
      rw [bytesNat_six, hf]
      simp only [hn]
    have hf' : f < 281474976710656 := by
      have := hbyte 3; have := hbyte 4; have := hbyte 5; have := hbyte 6; have := hbyte 7; have := hbyte 8
      omega
    have hmode' : modeOfCode (n 1 / 32 % 8) = mode := by
      rw [Nat.mod_eq_of_lt (by have := hbyte 1; omega), modeOfCode_eq hmode]
    have hleft : laneCodeOf (f / 8 % 8) = codeL := by
      rw [← laneCodeNat_eq (hcode _ _ (.inl ⟨rfl, rfl⟩)), laneCodeOf_laneCodeNat]
    have hright : laneCodeOf (f % 8) = codeR := by
      rw [← laneCodeNat_eq (hcode _ _ (.inr ⟨rfl, rfl⟩)), laneCodeOf_laneCodeNat]
    have hvref : f / 17179869184 % 16384 = f / 17179869184 := Nat.mod_eq_of_lt (by omega)
    rw [decodeStatus_eq (hn 1).symm hfield, hmode', hleft, hright, hvref]
    simp only [haccel, hpressure, signedByte_eq, pressureOfByte, hn]
  · intro a kind chan side hvalue hkind hchan hside rest
    rw [← alertKindCode_eq hkind, ← channelCode_eq hchan, ← alertSideCode_eq hside]
    rfl

end Sys2Proof.Machine

namespace Sys2Proof.Machine

/-! ## The peer table: ageing and the alone flag (R40 to R44, R49) -/

@[simp] theorem quadSet_quadGet {α : Type} (x : Quad α) (p : Position) : quadSet x p (quadGet x p) = x := by
  rcases quad_cases p with rfl | rfl | rfl | rfl <;> rfl

theorem State.aloneNow_iff (s : State) : s.aloneNow = true ↔ s.AloneRule := by
  have hentry : ∀ e, entryAlone s.view.missing e = true ↔
      e.state = .lost ∨ (e.state = .empty ∧ s.view.missing = .expired) := by
    intro e
    cases h : e.state <;> simp [entryAlone, h]
  simp only [State.aloneNow, State.AloneRule, List.all_eq_true, mem_positions, true_imp_iff, Bool.or_eq_true, hentry,
    State.expects, Bool.not_eq_true', Bool.and_eq_false_iff, decide_eq_false_iff_not]
  refine forall_congr' fun p => ⟨fun h hp hne => h.resolve_left (by simp [hp, hne]), fun h => ?_⟩
  by_cases hp : p.val < s.params.stations
  · by_cases hne : p = s.position
    · exact .inl (.inr (by simp [hne]))
    · exact .inr (h hp hne)
  · exact .inl (.inl hp)

/-- The alone flag as evaluated is set exactly when R49's condition holds. -/
theorem State.evalAlone_rule (s : State) : s.evalAlone.view.alone = true ↔ s.evalAlone.AloneRule := s.aloneNow_iff

/-- An entry replaced by one of the same state leaves the alone flag as it is (R49). -/
theorem State.replacePeer_same {s : State} {p : Position} {e : PeerEntry}
    (h : e.state = (quadGet s.view.peers p).state) : s.replacePeer p e = s.setPeer p e := if_pos h

/-- An entry replaced by one of another state has the alone flag evaluated (R49). -/
theorem State.replacePeer_changed {s : State} {p : Position} {e : PeerEntry}
    (h : e.state ≠ (quadGet s.view.peers p).state) : s.replacePeer p e = (s.setPeer p e).evalAlone := if_neg h

/-- An entry that stands changes nothing. -/
theorem State.replacePeer_self (s : State) (p : Position) : s.replacePeer p (quadGet s.view.peers p) = s := by
  rw [State.replacePeer_same rfl, State.setPeer, quadSet_quadGet]

theorem staleEntry_due {e : PeerEntry} {t t0 : Time} (hs : e.state = .fresh) (ha : e.accepted = some t0)
    (h : (if e.mode = .quiet then 1500000 else 30000) ≤ (t - t0).toNat) :
    staleEntry e t = { e with state := .stale } := if_pos ⟨hs, (aged_iff _ _ _).2 ⟨t0, ha, h⟩⟩

theorem staleEntry_void {e : PeerEntry} {t : Time} (h : e.state ≠ .fresh ∨
    ∀ t0, e.accepted = some t0 → (t - t0).toNat < if e.mode = .quiet then 1500000 else 30000) : staleEntry e t = e :=
  if_neg fun ⟨hs, ha⟩ => h.elim (fun h => h hs) fun h => not_aged_of_young h ha

theorem lostEntry_due {e : PeerEntry} {t t0 : Time} (hs : e.state = .stale) (ha : e.accepted = some t0)
    (h : (if e.mode = .quiet then 3000000 else 100000) ≤ (t - t0).toNat) : lostEntry e t = loseEntry e :=
  if_pos ⟨hs, (aged_iff _ _ _).2 ⟨t0, ha, h⟩⟩

theorem lostEntry_void {e : PeerEntry} {t : Time} (h : e.state ≠ .stale ∨
    ∀ t0, e.accepted = some t0 → (t - t0).toNat < if e.mode = .quiet then 3000000 else 100000) : lostEntry e t = e :=
  if_neg fun ⟨hs, ha⟩ => h.elim (fun h => h hs) fun h => not_aged_of_young h ha

theorem State.expireMissing_due {s : State} {t : Time} {w : Timer} (hw : s.view.missing = .running w)
    (h : w.period ≤ (t - w.setAt).toNat) :
    s.expireMissing t = { s with view := { s.view with missing := .expired } }.evalAlone := by
  have hdue : timerDue (some w) t = true := (timerDue_iff _ _).2 ⟨w, rfl, h⟩
  simp [State.expireMissing, hw, hdue]

theorem State.expireMissing_void {s : State} {t : Time}
    (h : ∀ w, s.view.missing = .running w → (t - w.setAt).toNat < w.period) : s.expireMissing t = s := by
  unfold State.expireMissing
  split
  · next w hw =>
    refine if_neg fun hdue => ?_
    obtain ⟨x, hx, hage⟩ := (timerDue_iff _ _).1 hdue
    obtain rfl := Option.some.inj hx
    exact absurd (h w hw) (Nat.not_lt.2 hage)
  · rfl
  · rfl

/-- Settles O29: the two ageing expiries and the missing timer's, each due and void. -/
theorem entriesAge : Obligations.EntriesAge := by
  refine ⟨fun m t0 p e s he ha => ⟨fun hs hdue => ?_, fun hs hdue => ?_⟩, fun m p e s he => ⟨fun h => ?_, fun h => ?_⟩,
    fun m s h => ?_, fun m w s hw hdue => ?_⟩
  · subst he
    have hchanged : ({ quadGet s.view.peers p with state := .stale } : PeerEntry).state ≠
        (quadGet (s.stamp m).view.peers p).state := by simp [hs]
    refine ⟨_, rfl, ?_⟩
    rw [staleEntry_due hs ha hdue, State.replacePeer_changed hchanged]
    exact ⟨State.evalAlone_rule _, rfl⟩
  · subst he
    have hchanged : (loseEntry (quadGet s.view.peers p)).state ≠ (quadGet (s.stamp m).view.peers p).state := by
      simp [loseEntry, hs]
    refine ⟨_, rfl, ?_⟩
    rw [lostEntry_due hs ha hdue, State.replacePeer_changed hchanged]
    exact ⟨State.evalAlone_rule _, rfl⟩
  · subst he
    exact congrArg Host.Outcome.next ((congrArg _ (staleEntry_void h)).trans ((s.stamp m).replacePeer_self p))
  · subst he
    exact congrArg Host.Outcome.next ((congrArg _ (lostEntry_void h)).trans ((s.stamp m).replacePeer_self p))
  · exact congrArg Host.Outcome.next (State.expireMissing_void (s := s.stamp m) h)
  · refine ⟨_, congrArg Host.Outcome.next (State.expireMissing_due (s := s.stamp m) hw hdue), ?_⟩
    exact ⟨State.evalAlone_rule _, rfl⟩

/-! ## The own lanes (R51) -/

/-- The lane codes of the phases (R51). -/
theorem phaseLaneCode_eq {ph : Phase} {code : LaneCode} (h : (ph, code) ∈ [(Phase.inactive, LaneCode.openLane),
    (.follow, .openLane), (.capped, .capped), (.hold, .hold), (.release, .release), (.recover, .recover),
    (.reapply, .reapply), (.passive, .passive), (.test, .test)]) : phaseLaneCode ph = code := by
  cases ph <;> simpa [phaseLaneCode, eq_comm] using h

/-- A code copied: the LEFT lane carries channel 1, the RIGHT lane channel 2 in SPLIT and channel 1 in JOINED (R51). -/
theorem copyCode_eq (a : Arrangement) (c : Channel) (code : LaneCode) (x : Sides Lane) : copyCode a c code x =
    ⟨if c = .ch2 then x.left else { x.left with code := code },
      if a = .joined ∧ c = .ch1 ∨ a = .split ∧ c = .ch2 then { x.right with code := code } else x.right⟩ := by
  cases a <;> cases c <;> rfl

/-- Settles O33: the copy taken in its turn, on the lanes its channel governs. -/
theorem phaseIsCopiedToOwnLanes : Obligations.PhaseIsCopiedToOwnLanes := by
  rintro ch ph code own s hbegun hturn rfl hcode
  refine congrArg Host.Outcome.next ((State.takeInTurn_of_inTurn hturn _).trans ((if_pos hbegun).trans ?_))
  rw [phaseLaneCode_eq hcode, copyCode_eq]
  rfl

end Sys2Proof.Machine

namespace Sys2Proof.Machine

/-! ## The judgement of a frame (R36, R37) -/

/-- A frame that carries the own position is a clash, whatever its length (R36). -/
theorem State.judgeSender_own {s : State} {sender : Fin 8} (ok : Bool) (h : sender.val = s.position.val) :
    s.judgeSender sender ok = .own := by
  have hlt : sender.val < 4 := h ▸ s.position.isLt
  simp [State.judgeSender, h]

/-- A frame from a position not below S is foreign, whatever its length (R36). -/
theorem State.judgeSender_foreign {s : State} {sender : Fin 8} (ok : Bool) (h : sender.val ≠ s.position.val)
    (hge : s.params.stations ≤ sender.val) : s.judgeSender sender ok = .foreign := by
  simp [State.judgeSender, Fin.ext_iff, h, hge]

/-- A frame of a wrong length from an expected position is a receive error (R36). -/
theorem State.judgeSender_badLength {s : State} {sender : Fin 8} (h : sender.val ≠ s.position.val)
    (hlt : sender.val < s.params.stations) (hfour : s.params.stations ≤ 4) :
    s.judgeSender sender false = .badLength := by
  simp [State.judgeSender, Fin.ext_iff, h, hlt, Nat.lt_of_lt_of_le hlt hfour]

/-- A frame of a right length from an expected position goes on (R36). -/
theorem State.judgeSender_peer {s : State} {sender : Fin 8} {p : Position} (hp : sender.val = p.val)
    (h : p ≠ s.position) (hlt : p.val < s.params.stations) : s.judgeSender sender true = .peer p := by
  simp [State.judgeSender, hp, h, Nat.not_le.2 hlt]

/-- An ALERT's length is that of one to four entries. -/
def alertLengthOk (payload : List Byte) : Bool :=
  decide (payload.length = 3) || decide (payload.length = 6) || decide (payload.length = 9)
    || decide (payload.length = 12)

/-- A STATUS or ALERT that does not go on is rejected whole (R36). -/
theorem exec_rejected {sender : Fin 8} {payload : List Byte} {c : Instr} {s : State} {k : SenderCase}
    (hon : s.unitsOn = true)
    (hc : c = .statusReceived sender payload ∧ s.judgeSender sender (decide (payload.length = 13)) = k
      ∨ c = .alertReceived sender payload ∧ s.judgeSender sender (alertLengthOk payload) = k)
    (hk : ∀ p, k ≠ .peer p) : exec c s = .next ((s.take c).rejectSender k) := by
  rcases hc with ⟨rfl, hj⟩ | ⟨rfl, hj⟩
  · have hj' : (s.take (.statusReceived sender payload)).judgeSender sender (decide (payload.length = 13)) = k := hj
    have hon' : (s.take (.statusReceived sender payload)).unitsOn = true := hon
    refine congrArg Host.Outcome.next ?_
    rw [State.takeStatus, if_pos hon', hj']
    cases k with
    | peer p => exact absurd rfl (hk p)
    | _ => rfl
  · have hj' : (s.take (.alertReceived sender payload)).judgeSender sender (alertLengthOk payload) = k := hj
    have hon' : (s.take (.alertReceived sender payload)).unitsOn = true := hon
    refine congrArg Host.Outcome.next ?_
    unfold alertLengthOk at hj'
    rw [State.takeAlert, if_pos hon', hj']
    cases k with
    | peer p => exact absurd rfl (hk p)
    | _ => rfl

/-- A STATUS of 13 bytes from an expected position is judged by its sequence (R36, R37). -/
theorem exec_statusReceived_peer {sender : Fin 8} {p : Position} {payload : List Byte} {s : State}
    (hon : s.unitsOn = true) (hp : sender.val = p.val) (hne : p ≠ s.position) (hlt : p.val < s.params.stations)
    (hlen : payload.length = 13) :
    exec (.statusReceived sender payload) s =
      .next ((s.take (.statusReceived sender payload)).acceptStatus p (decodeStatus payload)) := by
  have hj : (s.take (.statusReceived sender payload)).judgeSender sender true = .peer p :=
    State.judgeSender_peer hp hne hlt
  have hon' : (s.take (.statusReceived sender payload)).unitsOn = true := hon
  refine congrArg Host.Outcome.next ?_
  rw [State.takeStatus, if_pos hon', decide_eq_true hlen, hj]

/-- An ALERT of a right length from an expected position has its entries applied (R36, R45). -/
theorem exec_alertReceived_peer {sender : Fin 8} {p : Position} {payload : List Byte} {s : State}
    (hon : s.unitsOn = true) (hp : sender.val = p.val) (hne : p ≠ s.position) (hlt : p.val < s.params.stations)
    (hlen : payload.length ∈ [3, 6, 9, 12]) :
    exec (.alertReceived sender payload) s =
      .next ((s.take (.alertReceived sender payload)).applyAlerts p (decodeAlerts payload)) := by
  have hj : (s.take (.alertReceived sender payload)).judgeSender sender true = .peer p :=
    State.judgeSender_peer hp hne hlt
  have hon' : (s.take (.alertReceived sender payload)).unitsOn = true := hon
  have hok : alertLengthOk payload = true := by simpa [alertLengthOk, or_assoc] using hlen
  unfold alertLengthOk at hok
  refine congrArg Host.Outcome.next ?_
  rw [State.takeAlert, if_pos hon', hok, hj]

/-- An entry that is EMPTY or LOST accepts any sequence, another one at a distance of 1 to 128 (R37). -/
theorem judgeSequence_accepted {e : PeerEntry} {seq : Byte} {missed : Nat}
    (h : ((e.state = .empty ∨ e.state = .lost) ∧ missed = 0)
      ∨ ((e.state = .fresh ∨ e.state = .stale) ∧ ∃ last, e.lastSeq = some last ∧ 1 ≤ (seq - last).toNat
        ∧ (seq - last).toNat ≤ 128 ∧ missed + 1 = (seq - last).toNat)) :
    judgeSequence e seq = .accepted missed := by
  rcases h with ⟨hs | hs, rfl⟩ | ⟨hs, last, hlast, hlow, hhigh, hgap⟩
  · simp [judgeSequence, hs]
  · simp [judgeSequence, hs]
  · have hd : (if 1 ≤ (seq - e.lastSeq.getD 0).toNat ∧ (seq - e.lastSeq.getD 0).toNat ≤ 128
        then SeqOutcome.accepted ((seq - e.lastSeq.getD 0).toNat - 1) else .refused) = .accepted missed := by
      rw [hlast, Option.getD_some, if_pos ⟨hlow, hhigh⟩, ← hgap, Nat.add_sub_cancel]
    rcases hs with hs | hs <;> simpa only [judgeSequence, hs] using hd

/-- A FRESH or STALE entry refuses a distance of 0 or above 128 (R37). -/
theorem judgeSequence_refused {e : PeerEntry} {seq last : Byte} (hs : e.state = .fresh ∨ e.state = .stale)
    (hlast : e.lastSeq = some last) (h : (seq - last).toNat = 0 ∨ 128 < (seq - last).toNat) :
    judgeSequence e seq = .refused := by
  have hd : (if 1 ≤ (seq - e.lastSeq.getD 0).toNat ∧ (seq - e.lastSeq.getD 0).toNat ≤ 128
      then SeqOutcome.accepted ((seq - e.lastSeq.getD 0).toNat - 1) else .refused) = .refused := by
    rw [hlast, Option.getD_some, if_neg (by omega)]
  rcases hs with hs | hs <;> simpa only [judgeSequence, hs] using hd

/-- An accepted STATUS replaces the entry, counts the gap and gives the acceptance notice (R37, R38, R39). -/
theorem State.acceptStatus_accepted {s : State} {p : Position} {r : ReadStatus} {missed : Nat}
    (h : judgeSequence (quadGet s.view.peers p) r.seq = .accepted missed) : s.acceptStatus p r =
      ((s.replacePeer p (acceptedEntry r s.now)).addGap missed).hand [.wakeEvent (.acceptance r.mode r.vref)] := by
  rw [State.acceptStatus, h]

theorem State.acceptStatus_refused {s : State} {p : Position} {r : ReadStatus}
    (h : judgeSequence (quadGet s.view.peers p) r.seq = .refused) : s.acceptStatus p r = s.addDuplicate := by
  rw [State.acceptStatus, h]

/-- Settles O30: the sequence of a STATUS from an expected position, then the three ways R36 rejects a frame. -/
theorem senderAndSequenceAreJudged : Obligations.SenderAndSequenceAreJudged := by
  refine ⟨?_, ?_⟩
  · rintro sender p payload e s hon hp hne hlt hlen rfl
    have hexec := exec_statusReceived_peer hon hp hne hlt hlen
    refine ⟨fun missed h => ?_, fun last hs hlast h => ?_⟩
    · have hj := judgeSequence_accepted h
      refine ⟨_, hexec.trans (congrArg _ (State.acceptStatus_accepted hj)), ?_⟩
      by_cases hs : (quadGet s.view.peers p).state = .fresh
      · rw [State.replacePeer_same hs.symm]
        exact ⟨fun h => absurd hs h, fun _ => rfl, rfl⟩
      · rw [State.replacePeer_changed fun h => hs h.symm]
        exact ⟨fun _ => State.evalAlone_rule _, fun h => absurd h hs, rfl⟩
    · exact hexec.trans (congrArg _ (State.acceptStatus_refused (judgeSequence_refused hs hlast h)))
  · intro sender payload c s hon hc
    have hjudged : ∀ k, (∀ p, k ≠ SenderCase.peer p) → (∀ ok, s.judgeSender sender ok = k) →
        exec c s = .next ((s.take c).rejectSender k) := fun k hk hj =>
      exec_rejected hon (hc.imp (fun h => ⟨h, hj _⟩) fun h => ⟨h, hj _⟩) hk
    refine ⟨fun h => hjudged .own nofun fun ok => s.judgeSender_own ok h,
      fun h hge => hjudged .foreign nofun fun ok => s.judgeSender_foreign ok h hge,
      fun h hlt hfour hstatus halert => ?_⟩
    refine exec_rejected (sender := sender) (payload := payload) (k := .badLength) hon ?_ nofun
    have hbad := State.judgeSender_badLength h hlt hfour
    rcases hc with rfl | rfl
    · exact .inl ⟨rfl, by rwa [decide_eq_false (hstatus rfl)]⟩
    · have hlen : alertLengthOk payload = false := by simpa [alertLengthOk, and_assoc] using halert rfl
      exact .inr ⟨rfl, by rwa [hlen]⟩

end Sys2Proof.Machine

namespace Sys2Proof.Machine

/-! ## The entries of an ALERT (R43, R45 to R48) -/

/-! ### Replacing an entry (R39, R49) -/

theorem quadSet_quadSet {α : Type} (x : Quad α) (p : Position) (a b : α) :
    quadSet (quadSet x p a) p b = quadSet x p b := by
  rcases quad_cases p with rfl | rfl | rfl | rfl <;> rfl

/-- The alone flag goes by the states of the entries (R49). -/
theorem State.setPeer_aloneNow_congr {s : State} {p : Position} {e f : PeerEntry} (h : e.state = f.state) :
    (s.setPeer p e).aloneNow = (s.setPeer p f).aloneNow := by
  have hentry : ∀ missing x, entryAlone missing (quadGet (quadSet s.view.peers p e) x) =
      entryAlone missing (quadGet (quadSet s.view.peers p f) x) := by
    intro missing x
    by_cases hx : x = p
    · simp [hx, entryAlone, h]
    · simp [quadGet_quadSet_of_ne _ _ hx]
  simp [State.aloneNow, State.expects, State.params, State.position, hentry]

/-- An entry replaced twice is the entry replaced once, unless the first changes the state and the second changes it
back (R39, R49). -/
theorem State.replacePeer_replacePeer {s : State} {p : Position} {e f : PeerEntry}
    (h : f.state = (quadGet s.view.peers p).state → e.state = f.state) :
    (s.replacePeer p e).replacePeer p f = s.replacePeer p f := by
  by_cases he : e.state = (quadGet s.view.peers p).state
  · have hset : (s.setPeer p e).setPeer p f = s.setPeer p f := by simp [State.setPeer, quadSet_quadSet]
    have hget : (quadGet (s.setPeer p e).view.peers p).state = (quadGet s.view.peers p).state := by simp [he]
    rw [State.replacePeer_same he, State.replacePeer, State.replacePeer, hget, hset]
  · have hset : (s.setPeer p e).evalAlone.setPeer p f =
        { s with view := { s.view with peers := quadSet s.view.peers p f, alone := (s.setPeer p e).aloneNow } } := by
      simp [State.setPeer, State.evalAlone, quadSet_quadSet]
    have hget : (quadGet (s.setPeer p e).evalAlone.view.peers p) = e := quadGet_quadSet _ _ _
    rw [State.replacePeer_changed he, State.replacePeer_changed (e := f) fun hf => he ((h hf).trans hf),
      State.replacePeer, hget, hset]
    split
    · next hf => rw [State.setPeer_aloneNow_congr hf.symm, State.evalAlone, State.setPeer]
    · rfl

/-- An entry replaced writes the peer table and the alone flag, and nothing else of the station (R39, R49). -/
theorem State.replacePeer_eq (s : State) (p : Position) (e : PeerEntry) : s.replacePeer p e =
    { s with view := { s.view with peers := quadSet s.view.peers p e, alone := (s.replacePeer p e).view.alone } } := by
  unfold State.replacePeer
  split <;> rfl

theorem State.replacePeer_entry (s : State) (p : Position) (e : PeerEntry) :
    quadGet (s.replacePeer p e).view.peers p = e := by
  rw [s.replacePeer_view, quadGet_quadSet]

/-- What R49 says of the alone flag when an entry is replaced. -/
theorem State.replacePeer_alone (s : State) (p : Position) (e : PeerEntry) :
    (e.state = (quadGet s.view.peers p).state → (s.replacePeer p e).view.alone = s.view.alone)
      ∧ (e.state ≠ (quadGet s.view.peers p).state →
        ((s.replacePeer p e).view.alone = true ↔ (s.replacePeer p e).AloneRule)) := by
  refine ⟨fun h => ?_, fun h => ?_⟩
  · rw [State.replacePeer_same h]
    rfl
  · rw [State.replacePeer_changed h]
    exact State.evalAlone_rule _

/-! ### One entry -/

/-- The payload of an ALERT is read entry by entry (R45, R197). -/
theorem decodeAlerts_cons (kind field value : Byte) (rest : List Byte) : decodeAlerts (kind :: field :: value :: rest) =
    { kind := kind.toNat, channel := field.toNat / 64 } :: decodeAlerts rest := by
  have hchannel : bitsOf field.toNat 7 6 = field.toNat / 64 := by
    rw [bitsOf_eq]
    exact Nat.mod_eq_of_lt (by have := field.isLt; omega)
  have hlen : (kind :: field :: value :: rest).length / 3 = rest.length / 3 + 1 := by
    simp only [List.length_cons]
    omega
  rw [← hchannel, decodeAlerts, hlen, List.range_succ_eq_map, List.map_cons, List.map_map]
  rfl

theorem decodeAlerts_one (kind field value : Byte) :
    decodeAlerts [kind, field, value] = [{ kind := kind.toNat, channel := field.toNat / 64 }] :=
  decodeAlerts_cons kind field value []

theorem decodeAlerts_append {first : List Byte} (h : first.length = 3) (rest : List Byte) :
    decodeAlerts (first ++ rest) = decodeAlerts first ++ decodeAlerts rest := by
  obtain ⟨kind, field, value, rfl⟩ := List.length_eq_three.1 h
  rw [decodeAlerts_one]
  exact decodeAlerts_cons kind field value rest

/-- What one alert entry does to the sender's entry, whatever that stands at: nothing, a code written, or a mode other
than QUIET set (R46, R47, R48). -/
theorem applyAlert_cases (t : Time) (a : ReadAlert) : (∀ e, applyAlert t e a = e)
    ∨ (∃ code, ∀ e, applyAlert t e a = writeLaneCode e a.channel code)
    ∨ ∃ m, m ≠ .quiet ∧ ∀ e, applyAlert t e a = writeMode e m t := by
  unfold applyAlert
  cases alertKindOf a.kind with
  | none => exact .inl fun e => rfl
  | some k =>
    cases k
    case positionClash => exact .inl fun e => rfl
    case lockOnset | cycleEnd | channelPassive => exact .inr (.inl ⟨_, fun e => rfl⟩)
    all_goals exact .inr (.inr ⟨_, by decide, fun e => rfl⟩)

/-- A lane alert writes codes into lanes, and which lanes and codes does not go by the entry's state (R46). -/
theorem writeLaneCode_lanes (e : PeerEntry) (channel : Nat) (code : LaneCode) :
    ∃ lanes, ∀ x, writeLaneCode { e with state := x } channel code = { e with state := x, lanes := lanes } := by
  unfold writeLaneCode
  dsimp only
  split
  case h_4 => exact ⟨e.lanes, fun x => rfl⟩
  all_goals exact ⟨_, fun x => rfl⟩

/-- An entry whose mode is not QUIET keeps its state under an alert, which does the same in any other state (R43). -/
theorem applyAlert_awake (t : Time) (a : ReadAlert) {e : PeerEntry} (h : e.mode ≠ .quiet) :
    (applyAlert t e a).mode ≠ .quiet
      ∧ ∀ x, applyAlert t { e with state := x } a = { applyAlert t e a with state := x } := by
  rcases applyAlert_cases t a with heq | ⟨code, heq⟩ | ⟨m, hm, heq⟩
  · exact ⟨by rwa [heq], fun x => by rw [heq, heq]⟩
  · obtain ⟨lanes, hwrite⟩ := writeLaneCode_lanes e a.channel code
    have hwrite' : writeLaneCode e a.channel code = { e with lanes := lanes } := hwrite e.state
    exact ⟨by rw [heq, hwrite']; exact h, fun x => by rw [heq, heq, hwrite, hwrite']⟩
  · have hwrite : ∀ x, writeMode { e with state := x } m t = { e with state := x, mode := m } := fun x =>
      if_neg fun hq => h hq.1
    have hwrite' : writeMode e m t = { e with mode := m } := if_neg fun hq => h hq.1
    exact ⟨by rw [heq, hwrite']; exact hm, fun x => by rw [heq, heq, hwrite, hwrite']⟩

/-- An alert leaves the state as it is, or sets a mode other than QUIET and ages the entry (R43). -/
theorem applyAlert_ages (t : Time) (e : PeerEntry) (a : ReadAlert) : (applyAlert t e a).state = e.state
    ∨ (applyAlert t e a).mode ≠ .quiet ∧ ((applyAlert t e a).state = .lost ∨ (applyAlert t e a).state = .stale) := by
  rcases applyAlert_cases t a with heq | ⟨code, heq⟩ | ⟨m, hm, heq⟩
  · exact .inl (by rw [heq])
  · obtain ⟨lanes, hwrite⟩ := writeLaneCode_lanes e a.channel code
    have hwrite' : writeLaneCode e a.channel code = { e with lanes := lanes } := hwrite e.state
    exact .inl (by rw [heq, hwrite'])
  · rw [heq, writeMode]
    dsimp only
    split
    · split
      · exact .inr ⟨hm, .inl rfl⟩
      split
      · exact .inr ⟨hm, .inr rfl⟩
      · exact .inl rfl
    · exact .inl rfl

theorem foldl_applyAlert_awake (t : Time) (alerts : List ReadAlert) : ∀ {e : PeerEntry}, e.mode ≠ .quiet →
    (alerts.foldl (applyAlert t) e).mode ≠ .quiet ∧ ∀ x, alerts.foldl (applyAlert t) { e with state := x }
      = { alerts.foldl (applyAlert t) e with state := x } := by
  induction alerts with
  | nil => exact fun h => ⟨h, fun x => rfl⟩
  | cons a alerts ih =>
    intro e h
    obtain ⟨hmode, hstate⟩ := applyAlert_awake t a h
    refine ⟨(ih hmode).1, fun x => ?_⟩
    rw [List.foldl_cons, hstate, (ih hmode).2, List.foldl_cons]

theorem foldl_applyAlert_state (t : Time) (alerts : List ReadAlert) {e : PeerEntry} (h : e.mode ≠ .quiet) :
    (alerts.foldl (applyAlert t) e).state = e.state := by
  have hsame : alerts.foldl (applyAlert t) e = { alerts.foldl (applyAlert t) e with state := e.state } :=
    (foldl_applyAlert_awake t alerts h).2 e.state
  rw [hsame]

theorem foldl_applyAlert_ages (t : Time) (alerts : List ReadAlert) : ∀ e : PeerEntry,
    (alerts.foldl (applyAlert t) e).state = e.state ∨ (alerts.foldl (applyAlert t) e).mode ≠ .quiet
      ∧ ((alerts.foldl (applyAlert t) e).state = .lost ∨ (alerts.foldl (applyAlert t) e).state = .stale) := by
  induction alerts with
  | nil => exact fun e => .inl rfl
  | cons a alerts ih =>
    intro e
    rw [List.foldl_cons]
    rcases applyAlert_ages t e a with h | ⟨hmode, h⟩
    · rw [← h]
      exact ih _
    · rw [foldl_applyAlert_state t alerts hmode]
      exact .inr ⟨(foldl_applyAlert_awake t alerts hmode).1, h⟩

/-! ### One entry by its kind -/

/-- An entry of section 12.3's first three kinds writes its code (R46). -/
theorem applyAlert_lane {kind : Byte} {code : LaneCode}
    (h : (kind = 1#8 ∧ code = .hold) ∨ (kind = 2#8 ∧ code = .openLane) ∨ (kind = 3#8 ∧ code = .passive)) (t : Time)
    (e : PeerEntry) (channel : Nat) :
    applyAlert t e { kind := kind.toNat, channel := channel } = writeLaneCode e channel code
      ∧ alertIsForeign { kind := kind.toNat, channel := channel } = (decide (channel = 0) || decide (channel = 3)) := by
  rcases h with ⟨rfl, rfl⟩ | ⟨rfl, rfl⟩ | ⟨rfl, rfl⟩ <;> exact ⟨rfl, rfl⟩

/-- A module alert sets the mode, whatever its channel field (R45, R47). -/
theorem applyAlert_module {kind : Byte} {mode : Mode}
    (h : (kind, mode) ∈ [(4#8, Mode.held), (5#8, .passive), (6#8, .latched), (7#8, .active)]) (t : Time) (e : PeerEntry)
    (channel : Nat) : mode ≠ .quiet ∧ applyAlert t e { kind := kind.toNat, channel := channel } = writeMode e mode t
      ∧ alertIsForeign { kind := kind.toNat, channel := channel } = false := by
  simp only [List.mem_cons, Prod.mk.injEq, List.not_mem_nil, or_false] at h
  rcases h with ⟨rfl, rfl⟩ | ⟨rfl, rfl⟩ | ⟨rfl, rfl⟩ | ⟨rfl, rfl⟩ <;> exact ⟨by decide, rfl, rfl⟩

theorem alertKindOf_unknown {n : Nat} (h : 9 ≤ n) : alertKindOf n = none := by
  unfold alertKindOf
  split
  case h_9 => rfl
  all_goals omega

/-- An unknown kind, a POSITION_CLASH and a lane alert of channel field 0 or 3 count as foreign (R48, R197). -/
theorem alertIsForeign_of {a : ReadAlert} (h : a.kind = 0 ∨ 8 ≤ a.kind ∨ a.kind ≤ 3 ∧ (a.channel = 0 ∨ a.channel = 3)) :
    alertIsForeign a = true := by
  obtain ⟨kind, channel⟩ := a
  obtain rfl | h | ⟨hkind, h⟩ := h
  · rfl
  · obtain rfl | h : kind = 8 ∨ 9 ≤ kind := by dsimp only at h; omega
    · rfl
    · simp [alertIsForeign, alertKindOf_unknown h]
  · have hchannel : (decide (channel = 0) || decide (channel = 3)) = true := by simpa using h
    obtain rfl | rfl | rfl | rfl : kind = 0 ∨ kind = 1 ∨ kind = 2 ∨ kind = 3 := by dsimp only at hkind; omega
    · rfl
    all_goals exact hchannel

/-- An entry counted as foreign writes nothing (R48). -/
theorem applyAlert_foreign {a : ReadAlert} (h : alertIsForeign a = true) (t : Time) (e : PeerEntry) :
    applyAlert t e a = e := by
  have hlane : (decide (a.channel = 0) || decide (a.channel = 3)) = true →
      ∀ code, writeLaneCode e a.channel code = e := by
    intro hc code
    obtain hc | hc : a.channel = 0 ∨ a.channel = 3 := by simpa using hc
    all_goals cases ha : e.arrangement <;> simp [writeLaneCode, hc, ha]
  unfold alertIsForeign at h
  unfold applyAlert
  cases hk : alertKindOf a.kind with
  | none => rfl
  | some k =>
    rw [hk] at h
    cases k
    case positionClash => rfl
    case lockOnset | cycleEnd | channelPassive => exact hlane h _
    all_goals cases h

/-! ### An ALERT applied (R45) -/

theorem State.addForeign_zero {s : State} (h : s.link.stats.foreignFrames ≤ 65535) : s.addForeign 0 = s := by
  simp [State.addForeign, State.setStats, saturate16, h]

theorem State.addForeign_addForeign (s : State) (m n : Nat) : (s.addForeign m).addForeign n = s.addForeign (m + n) := by
  have h : min 65535 (min 65535 (s.link.stats.foreignFrames + m) + n) =
      min 65535 (s.link.stats.foreignFrames + (m + n)) := by
    omega
  simp [State.addForeign, State.setStats, saturate16, h]

/-- The count of foreign frames and the peer table do not touch each other. -/
theorem State.replacePeer_addForeign (s : State) (n : Nat) (p : Position) (e : PeerEntry) :
    (s.addForeign n).replacePeer p e = (s.replacePeer p e).addForeign n := by
  by_cases h : e.state = (quadGet s.view.peers p).state
  · rw [State.replacePeer_same h, State.replacePeer_same (s := s.addForeign n) h]
    rfl
  · rw [State.replacePeer_changed h, State.replacePeer_changed (s := s.addForeign n) h]
    rfl

theorem State.applyAlerts_aside {s : State} {p : Position} (alerts : List ReadAlert)
    (h : (quadGet s.view.peers p).state = .empty ∨ (quadGet s.view.peers p).state = .lost) :
    s.applyAlerts p alerts = s := by
  rcases h with h | h <;> simp [State.applyAlerts, h]

theorem State.applyAlerts_heard {s : State} {p : Position} (alerts : List ReadAlert)
    (h : (quadGet s.view.peers p).state = .fresh ∨ (quadGet s.view.peers p).state = .stale) : s.applyAlerts p alerts =
      (s.replacePeer p (alerts.foldl (applyAlert s.now) (quadGet s.view.peers p))).addForeign
        (alerts.countP alertIsForeign) := by
  rcases h with h | h <;> simp [State.applyAlerts, h]

theorem State.replacePeer_take (s : State) (c : Instr) (p : Position) (e : PeerEntry) :
    (s.take c).replacePeer p e = (s.replacePeer p e).take c := by
  by_cases h : e.state = (quadGet s.view.peers p).state
  · rw [State.replacePeer_same h, State.replacePeer_same (s := s.take c) h]
    rfl
  · rw [State.replacePeer_changed h, State.replacePeer_changed (s := s.take c) h]
    rfl

/-- An entry is FRESH or STALE, or it is EMPTY or LOST. -/
theorem heard_or_not (x : EntryState) : (x = .fresh ∨ x = .stale) ∨ (x = .empty ∨ x = .lost) := by cases x <;> simp

/-- The entries are applied the same once the ALERT has been taken. -/
theorem State.applyAlerts_take (s : State) (c : Instr) (p : Position) (alerts : List ReadAlert) :
    (s.take c).applyAlerts p alerts = (s.applyAlerts p alerts).take c := by
  rcases heard_or_not (quadGet s.view.peers p).state with h | h
  · rw [State.applyAlerts_heard alerts h, State.applyAlerts_heard (s := s.take c) alerts h]
    exact congrArg (fun x : State => x.addForeign _) (s.replacePeer_take c p _)
  · rw [State.applyAlerts_aside alerts h, State.applyAlerts_aside (s := s.take c) alerts h]

/-- The sender's entry after an ALERT. -/
theorem State.applyAlerts_entry {s : State} {p : Position} (alerts : List ReadAlert)
    (h : (quadGet s.view.peers p).state = .fresh ∨ (quadGet s.view.peers p).state = .stale) :
    quadGet (s.applyAlerts p alerts).view.peers p = alerts.foldl (applyAlert s.now) (quadGet s.view.peers p) := by
  rw [State.applyAlerts_heard alerts h]
  exact s.replacePeer_entry p _

/-- Entries applied that leave the sender heard, and then the rest, have the effect of all in frame order (R45). -/
theorem State.applyAlerts_append {s : State} {p : Position} {first : List ReadAlert} (rest : List ReadAlert)
    (h : (quadGet s.view.peers p).state = .fresh ∨ (quadGet s.view.peers p).state = .stale)
    (hfirst : (quadGet (s.applyAlerts p first).view.peers p).state ≠ .lost) :
    (s.applyAlerts p first).applyAlerts p rest = s.applyAlerts p (first ++ rest) := by
  have hentry := s.applyAlerts_entry first h
  have hages := foldl_applyAlert_ages s.now first (quadGet s.view.peers p)
  have hnow : (s.applyAlerts p first).now = s.now := by simp
  rw [hentry] at hfirst
  have hheard : (first.foldl (applyAlert s.now) (quadGet s.view.peers p)).state = .fresh
      ∨ (first.foldl (applyAlert s.now) (quadGet s.view.peers p)).state = .stale := by
    rcases hages with hsame | ⟨-, hlost | hstale⟩
    · rwa [hsame]
    · exact absurd hlost hfirst
    · exact .inr hstale
  rw [State.applyAlerts_heard rest (by rwa [hentry]), hentry, hnow, State.applyAlerts_heard first h,
    State.replacePeer_addForeign, State.addForeign_addForeign, State.applyAlerts_heard _ h, List.foldl_append,
    List.countP_append]
  refine congrArg (fun x : State => x.addForeign _) (State.replacePeer_replacePeer fun hback => ?_)
  rcases hages with hsame | ⟨hmode, -⟩
  · exact hsame.trans hback.symm
  · exact (foldl_applyAlert_state _ rest hmode).symm

theorem State.setPeer_setPeer (s : State) (p : Position) (e f : PeerEntry) :
    (s.setPeer p e).setPeer p f = s.setPeer p f := by
  simp [State.setPeer, quadSet_quadSet]

/-- An ALERT from a sender whose mode is not QUIET leaves its state, and so the alone flag (R43, R49). -/
theorem State.applyAlerts_awake {s : State} {p : Position} {e : PeerEntry} (alerts : List ReadAlert)
    (he : quadGet s.view.peers p = e) (h : e.state = .fresh ∨ e.state = .stale) (hmode : e.mode ≠ .quiet) :
    s.applyAlerts p alerts =
      (s.setPeer p (alerts.foldl (applyAlert s.now) e)).addForeign (alerts.countP alertIsForeign) := by
  subst he
  rw [State.applyAlerts_heard alerts h, State.replacePeer_same (foldl_applyAlert_state _ _ hmode)]

/-- Where the first entries make the sender LOST, the rest is applied as to a STALE entry that then stands LOST (R45;
log entry 16). -/
theorem State.applyAlerts_append_lost {s x : State} {p : Position} {first : List ReadAlert} {rest : List ReadAlert}
    (h : (quadGet s.view.peers p).state = .fresh ∨ (quadGet s.view.peers p).state = .stale)
    (hfirst : (quadGet (s.applyAlerts p first).view.peers p).state = .lost)
    (hx : ((s.applyAlerts p first).setPeer p
      { quadGet (s.applyAlerts p first).view.peers p with state := .stale }).applyAlerts p rest = x) :
    x.setPeer p { quadGet x.view.peers p with state := .lost } = s.applyAlerts p (first ++ rest) := by
  obtain ⟨e, he⟩ : ∃ e, e = first.foldl (applyAlert s.now) (quadGet s.view.peers p) := ⟨_, rfl⟩
  have hentry : quadGet (s.applyAlerts p first).view.peers p = e := he ▸ s.applyAlerts_entry first h
  have hnow : (s.applyAlerts p first).now = s.now := by simp
  rw [hentry] at hfirst hx
  have hmode : e.mode ≠ .quiet := by
    rcases he ▸ foldl_applyAlert_ages s.now first (quadGet s.view.peers p) with hsame | ⟨hmode, -⟩
    · rw [← hsame, hfirst] at h
      simp at h
    · exact hmode
  obtain ⟨f, hf⟩ : ∃ f, f = rest.foldl (applyAlert s.now) e := ⟨_, rfl⟩
  have hlost : f.state = .lost := hf ▸ (foldl_applyAlert_state _ rest hmode).trans hfirst
  have hstale : rest.foldl (applyAlert s.now) { e with state := .stale } = { f with state := .stale } :=
    hf ▸ (foldl_applyAlert_awake _ rest hmode).2 .stale
  have hx' : ((s.applyAlerts p first).setPeer p { f with state := .stale }).addForeign
      (rest.countP alertIsForeign) = x := by
    rw [← hx, State.applyAlerts_awake (e := { e with state := .stale }) rest (quadGet_quadSet _ _ _) (.inr rfl) hmode,
      State.setPeer_setPeer]
    simp only [State.setPeer_frame, hnow, hstale]
  have hfLost : ({ f with state := .lost } : PeerEntry) = f := by rw [← hlost]
  have hxf : x.setPeer p { quadGet x.view.peers p with state := .lost } =
      ((s.applyAlerts p first).setPeer p f).addForeign (rest.countP alertIsForeign) := by
    have hxentry : quadGet x.view.peers p = { f with state := .stale } := hx' ▸ quadGet_quadSet _ _ _
    rw [hxentry, hfLost, ← hx']
    exact congrArg (fun y : State => y.addForeign _) (State.setPeer_setPeer _ p _ f)
  have htwice : (s.replacePeer p e).setPeer p f = s.replacePeer p f := by
    have hsame : f.state = (quadGet (s.replacePeer p e).view.peers p).state := by
      rw [s.replacePeer_entry, hlost, hfirst]
    rw [← State.replacePeer_same hsame, State.replacePeer_replacePeer fun _ => hfirst.trans hlost.symm]
  rw [hxf, State.applyAlerts_heard first h, State.applyAlerts_heard _ h, List.foldl_append, List.countP_append, ← he,
    ← hf, ← State.addForeign_addForeign, ← htwice]
  rfl

/-- An ALERT of a right length from an expected position: its entries applied, the ALERT taken (R36, R45). -/
theorem exec_alertReceived {sender : Fin 8} {p : Position} {payload : List Byte} {s : State} (hon : s.unitsOn = true)
    (hp : sender.val = p.val) (hne : p ≠ s.position) (hlt : p.val < s.params.stations)
    (hlen : payload.length ∈ [3, 6, 9, 12]) :
    exec (.alertReceived sender payload) s =
      .next ((s.applyAlerts p (decodeAlerts payload)).take (.alertReceived sender payload)) := by
  rw [exec_alertReceived_peer hon hp hne hlt hlen, State.applyAlerts_take]

/-- Two commands taken from the same state leave it the same but for what stays handed. -/
theorem State.take_eq_of_handed {x : State} {handed : List Instr} (h : x.handed = handed) (c d : Instr) :
    x.take c = { x.take d with handed := handed.erase c } := by
  subst h
  rfl

/-- An ALERT of one entry from a FRESH or STALE sender (R45). -/
theorem State.applyAlerts_one {s : State} {p : Position} (a : ReadAlert)
    (h : (quadGet s.view.peers p).state = .fresh ∨ (quadGet s.view.peers p).state = .stale) :
    s.applyAlerts p [a] = (s.replacePeer p (applyAlert s.now (quadGet s.view.peers p) a)).addForeign
      (if alertIsForeign a then 1 else 0) := by
  rw [State.applyAlerts_heard _ h, List.countP_singleton]
  rfl

/-- A lane alert that is not counted as foreign writes lanes of the sender and nothing else (R46). -/
theorem State.applyAlerts_lane {s : State} {p : Position} {kind : Byte} {channel : Nat} {code : LaneCode}
    {e : PeerEntry} {lanes : Sides Lane} (he : e = quadGet s.view.peers p) (h : e.state = .fresh ∨ e.state = .stale)
    (hstats : s.link.stats.foreignFrames ≤ 65535)
    (hkind : (kind = 1#8 ∧ code = .hold) ∨ (kind = 2#8 ∧ code = .openLane) ∨ (kind = 3#8 ∧ code = .passive))
    (hchannel : channel = 1 ∨ channel = 2) (hlanes : writeLaneCode e channel code = { e with lanes := lanes }) :
    s.applyAlerts p [{ kind := kind.toNat, channel := channel }] = s.setPeer p { e with lanes := lanes } := by
  subst he
  obtain ⟨heffect, hforeign⟩ := applyAlert_lane hkind s.now (quadGet s.view.peers p) channel
  have hknown : (decide (channel = 0) || decide (channel = 3)) = false := by
    rcases hchannel with rfl | rfl <;> rfl
  rw [State.applyAlerts_one _ h, heffect, hforeign, hknown, hlanes,
    State.replacePeer_same (e := { quadGet s.view.peers p with lanes := lanes }) rfl]
  exact State.addForeign_zero (s := s.setPeer p _) hstats

/-- A mode reported: the short limits of R40 apply at once where QUIET is left (R43). -/
theorem writeMode_eq {e : PeerEntry} {m : Mode} {t t0 : Time} (hm : m ≠ .quiet) (ha : e.accepted = some t0) :
    writeMode e m t = if e.mode = .quiet then
      (if 100000 ≤ (t - t0).toNat then loseEntry { e with mode := m }
        else if 30000 ≤ (t - t0).toNat then { e with mode := m, state := .stale } else { e with mode := m })
    else { e with mode := m } := by
  simp [writeMode, hm, ha, aged, elapsed, lostLimit, staleLimit]

/-- Settles O32: the alerts of one entry by kind, and the frame order of several. -/
theorem alertEntriesAreApplied : Obligations.AlertEntriesAreApplied := by
  refine ⟨?_, ?_, ?_⟩
  · rintro sender p kind field value code c e written s hon hp hne hlt he hstats rfl hwritten
    have hexec := exec_alertReceived (payload := [kind, field, value]) hon hp hne hlt List.mem_cons_self
    rw [decodeAlerts_one] at hexec
    refine ⟨fun h => ⟨fun hkind => ?_, fun hforeign => ?_⟩, fun h => ?_⟩
    · have hlane : ∀ channel lanes, field.toNat / 64 = channel → channel = 1 ∨ channel = 2 →
          writeLaneCode e channel code = { e with lanes := lanes } →
          exec (.alertReceived sender [kind, field, value]) s = .next (written lanes) := by
        intro channel lanes hfield hchannel hlanes
        rw [hexec, hfield, State.applyAlerts_lane he h hstats hkind hchannel hlanes, hwritten]
        rfl
      refine ⟨fun ha hf => ?_, fun ha hf => ?_, fun ha hf => ?_, fun ha hf => ?_⟩
      · exact hlane 1 _ hf (.inl rfl) (by simp [writeLaneCode, ha])
      · exact hlane 2 _ hf (.inr rfl) (by simp [writeLaneCode, ha])
      · exact hlane 1 _ hf (.inl rfl) (by simp [writeLaneCode, ha])
      · exact hlane 2 _ hf (.inr rfl) (show writeLaneCode e 2 code = e by simp [writeLaneCode, ha])
    · have hcount := alertIsForeign_of (a := { kind := kind.toNat, channel := field.toNat / 64 }) hforeign
      subst he
      rw [hexec, State.applyAlerts_one _ h, applyAlert_foreign hcount, State.replacePeer_self, hcount]
      rfl
    · subst he
      rw [hexec, State.applyAlerts_aside _ h]
      rfl
  · rintro sender p kind field value mode t0 c e s hon hp hne hlt rfl hstats rfl hkind h ha
    have hexec := exec_alertReceived (payload := [kind, field, value]) hon hp hne hlt List.mem_cons_self
    obtain ⟨hm, heffect, hknown⟩ := applyAlert_module hkind s.now (quadGet s.view.peers p) (field.toNat / 64)
    rw [decodeAlerts_one, State.applyAlerts_one _ h, heffect, hknown, if_neg Bool.false_ne_true,
      State.addForeign_zero (by simpa using hstats)] at hexec
    obtain ⟨f, hf⟩ : ∃ f, f = writeMode (quadGet s.view.peers p) mode s.now := ⟨_, rfl⟩
    have hmode := hf.trans (writeMode_eq hm ha)
    rw [← hf] at hexec
    obtain ⟨hsame, hchanged⟩ := s.replacePeer_alone p f
    refine ⟨_, f, hexec, congrArg (State.take · _) (s.replacePeer_eq p f), fun hq => ?_, fun hq hlow hhigh => ?_,
      fun hq hlow => ?_, hsame, hchanged⟩
    · rw [hmode]
      rcases hq with hq | hq
      · rw [if_neg hq]
      · rw [if_neg (c := 100000 ≤ (s.now - t0).toNat) (by omega), if_neg (c := 30000 ≤ (s.now - t0).toNat) (by omega),
          ite_self]
    · rw [hmode, if_pos hq, if_neg (by omega), if_pos hlow]
    · rw [hmode, if_pos hq, if_pos hlow]
      rfl
  · rintro sender p first rest whole f s t u hon hp hne hlt h hfirst hrest rfl ht rfl
    have hlen : (first ++ rest).length ∈ [3, 6, 9, 12] := by
      rw [List.length_append, hfirst]
      rcases hrest with hrest | hrest | hrest <;> rw [hrest] <;> decide
    have hwhole := exec_alertReceived (payload := first ++ rest) hon hp hne hlt hlen
    rw [decodeAlerts_append hfirst] at hwhole
    rw [exec_alertReceived hon hp hne hlt (by rw [hfirst]; decide)] at ht
    obtain rfl := Host.Outcome.next.inj ht
    have hrestlen : rest.length ∈ [3, 6, 9, 12] := by
      rcases hrest with hrest | hrest | hrest <;> rw [hrest] <;> decide
    have hrestexec : ∀ y : State, y.startup = s.startup → exec (.alertReceived sender rest) y =
        .next ((y.applyAlerts p (decodeAlerts rest)).take (.alertReceived sender rest)) := fun y hy =>
      exec_alertReceived (State.unitsOn_eq hy ▸ hon) hp (State.position_eq hy ▸ hne) (State.params_eq hy ▸ hlt) hrestlen
    obtain ⟨x, hx⟩ : ∃ x, x = s.applyAlerts p (decodeAlerts first) := ⟨_, rfl⟩
    have hhanded : s.handed = x.handed := by simp [hx]
    have hstartup : x.startup = s.startup := by simp [hx]
    rw [hwhole, ← hx, hhanded]
    refine ⟨fun hheard hu => ?_, fun hlost hu => ?_⟩
    · obtain rfl := Host.Outcome.next.inj ((hrestexec x hstartup).symm.trans hu)
      rw [← State.applyAlerts_append _ h (hx ▸ hheard), ← hx]
      exact congrArg _ (State.take_eq_of_handed (by simp) _ _)
    · have hstale := hrestexec (x.setPeer p { quadGet x.view.peers p with state := .stale }) hstartup
      obtain rfl := Host.Outcome.next.inj (hstale.symm.trans hu)
      rw [← State.applyAlerts_append_lost h (hx ▸ hlost) rfl, ← hx]
      exact congrArg _ (State.take_eq_of_handed (by simp) _ (.alertReceived sender rest))

end Sys2Proof.Machine

namespace Sys2Proof.Machine

/-! ## The reference update of the view unit (R50 to R61, R174, R176) -/

/-! ### The wheel vector and the active mask (R50, R52, R60) -/

/-- An own lane is filled from its sample (R50). -/
theorem State.filledVector_own (s : State) (pair : Sides Sample) (i : Side) :
    sideGet (quadGet (s.filledVector pair) s.position) i =
      fillOwn (sideGet pair i) (sideGet (quadGet s.view.lanes s.position) i) := by
  rw [State.filledVector, quadGet_quadSet]
  cases i <;> rfl

/-- A peer's lanes are its entry's, as the vector reads them (R52). -/
theorem State.filledVector_peer {s : State} (pair : Sides Sample) {q : Position} (h : q ≠ s.position) :
    quadGet (s.filledVector pair) q = vectorLanes (quadGet s.view.peers q) := by
  rw [State.filledVector, quadGet_quadSet_of_ne _ _ h]
  rcases quad_cases q with rfl | rfl | rfl | rfl <;> rfl

theorem laneAntiLock_iff (c : LaneCode) :
    laneAntiLock c = true ↔ c ∈ [LaneCode.hold, .release, .recover, .reapply] := by
  cases c <;> simp [laneAntiLock]

/-- A lane is in the mask's set: present, and in an anti-lock phase (R60). -/
def laneActive (l : Lane) : Bool := l.speed.isSome && laneAntiLock l.code

theorem maskBit_getLsbD {k n : Nat} (hk : k < 8) (hn : n < 8) (l : Lane) :
    (maskBit k l).getLsbD n = (decide (n = k) && laneActive l) := by
  have hbit : ∀ k < 8, ∀ n < 8, (BitVec.ofNat 8 (2 ^ k)).getLsbD n = decide (n = k) := by decide
  unfold maskBit
  split
  · next h => rw [hbit k hk n hn, laneActive, h, Bool.and_true]
  · next h =>
    rw [laneActive, Bool.eq_false_iff.2 h, Bool.and_false]
    exact BitVec.getLsbD_zero

/-- The active mask of a vector, lane by lane (R60). -/
theorem maskOf_getLsbD (v : Quad (Sides Lane)) (p : Position) (i : Side) :
    (maskOf v).getLsbD (laneNumber p i) = laneActive (sideGet (quadGet v p) i) := by
  have hbits : ∀ n < 8, (maskOf v).getLsbD n =
      (decide (n = 0) && laneActive v.p0.left || decide (n = 1) && laneActive v.p0.right
      || decide (n = 2) && laneActive v.p1.left || decide (n = 3) && laneActive v.p1.right
      || decide (n = 4) && laneActive v.p2.left || decide (n = 5) && laneActive v.p2.right
      || decide (n = 6) && laneActive v.p3.left || decide (n = 7) && laneActive v.p3.right) := by
    intro n hn
    simp only [maskOf, BitVec.getLsbD_or, maskBit_getLsbD, hn, Nat.reduceLT]
  rw [hbits _ (by cases i <;> simp only [laneNumber] <;> omega)]
  rcases quad_cases p with rfl | rfl | rfl | rfl <;> cases i <;> simp [laneNumber, sideGet, quadGet]

/-! ### Candidates (R54) -/

theorem mem_laneCandidate {p : Position} {ok : Bool} {l : Lane} {c : Candidate} : c ∈ laneCandidate p ok l ↔
    c.position = p ∧ l.speed = some c.speed ∧ l.code ≠ .release ∧ ok = true := by
  obtain ⟨q, v⟩ := c
  unfold laneCandidate
  cases l.speed with
  | none => simp
  | some w =>
    by_cases h : l.code = .release <;> cases ok <;> simp [h, eq_comm]

/-- A lane may be a candidate: an own lane by its input and its sample, a peer's by its entry (R54). -/
def State.laneEligible (s : State) (p : Position) (i : Side) : Bool :=
  if p = s.position then ownEligible (sideGet s.view.own i) else decide ((quadGet s.view.peers p).state = .fresh)

theorem State.mem_candidatesAt (s : State) (p : Position) (c : Candidate) : c ∈ s.candidatesAt p ↔ ∃ i,
    c ∈ laneCandidate p (s.laneEligible p i) (sideGet (quadGet s.view.lanes p) i) := by
  have hsides : ∀ P : Side → Prop, (∃ i, P i) ↔ P .left ∨ P .right :=
    fun P => ⟨fun ⟨i, h⟩ => by cases i <;> simp [h], fun h => h.elim (⟨_, ·⟩) (⟨_, ·⟩)⟩
  unfold State.candidatesAt State.laneEligible
  rw [hsides]
  split <;> simp [sideGet]

theorem State.mem_candidates (s : State) (c : Candidate) : c ∈ s.candidates ↔
    ∃ i, (sideGet (quadGet s.view.lanes c.position) i).speed = some c.speed
      ∧ (sideGet (quadGet s.view.lanes c.position) i).code ≠ .release ∧ s.laneEligible c.position i = true := by
  simp only [State.candidates, List.mem_flatMap, mem_positions, true_and, s.mem_candidatesAt, mem_laneCandidate]
  refine ⟨fun ⟨p, i, hp, h⟩ => ⟨i, hp ▸ h⟩, fun ⟨i, h⟩ => ⟨_, i, rfl, h⟩⟩

/-! ### The candidate value (R55) -/

theorem highestSpeed_eq_some {xs : List Nat} {v : Nat} (hv : v ∈ xs) (hmax : ∀ w ∈ xs, w ≤ v) :
    highestSpeed xs = some v := by
  have e : highestSpeed xs = highest xs := by cases xs <;> rfl
  rw [e, highest_eq_some hv hmax]

theorem lowest_eq_some {xs : List Nat} {v : Nat} (hv : v ∈ xs) (hmin : ∀ w ∈ xs, v ≤ w) : lowest xs = some v := by
  have e : lowest xs = xs.min? := by cases xs <;> rfl
  rw [e, List.min?_eq_some_iff]
  exact ⟨hv, hmin⟩

theorem candidateValue_none {braking : Bool} {free : BitVec 4} {cs : List Candidate} (h : ∀ c, c ∉ cs) :
    candidateValue braking free cs = none := by
  obtain rfl := List.eq_nil_iff_forall_not_mem.2 h
  cases braking <;> rfl

theorem candidateValue_braking {free : BitVec 4} {cs : List Candidate} {c : Candidate} (hc : c ∈ cs)
    (hmax : ∀ d ∈ cs, d.speed ≤ c.speed) : candidateValue true free cs = some c.speed :=
  highestSpeed_eq_some (List.mem_map_of_mem hc) (by simpa using hmax)

theorem candidateValue_freeRolling {free : BitVec 4} {cs : List Candidate} {c : Candidate} (hc : c ∈ cs)
    (hfree : free.getLsbD c.position.val = true)
    (hmax : ∀ d ∈ cs, free.getLsbD d.position.val = true → d.speed ≤ c.speed) :
    candidateValue false free cs = some c.speed := by
  have hmem : c ∈ cs.filter fun d => free.getLsbD d.position.val := List.mem_filter.2 ⟨hc, hfree⟩
  have h : highestSpeed ((cs.filter fun d => free.getLsbD d.position.val).map (·.speed)) = some c.speed :=
    highestSpeed_eq_some (List.mem_map_of_mem hmem) fun w hw => by
      obtain ⟨d, hd, rfl⟩ := List.mem_map.1 hw
      exact hmax d (List.mem_filter.1 hd).1 (List.mem_filter.1 hd).2
  rw [candidateValue, if_neg Bool.false_ne_true, h]

theorem candidateValue_lowest {free : BitVec 4} {cs : List Candidate} {c : Candidate} (hc : c ∈ cs)
    (hfree : ∀ d ∈ cs, free.getLsbD d.position.val ≠ true) (hmin : ∀ d ∈ cs, c.speed ≤ d.speed) :
    candidateValue false free cs = some c.speed := by
  have h : cs.filter (fun d => free.getLsbD d.position.val) = [] := List.filter_eq_nil_iff.2 hfree
  have hlow : lowest (cs.map (·.speed)) = some c.speed :=
    lowest_eq_some (List.mem_map_of_mem hc) (by simpa using hmin)
  rw [candidateValue, if_neg Bool.false_ne_true, h, hlow]
  rfl

/-! ### vref, its ramps and the peer floor (R56 to R59) -/

theorem State.mem_freshVrefs (s : State) (v : Nat) : v ∈ s.freshVrefs ↔
    ∃ p, (quadGet s.view.peers p).state = .fresh ∧ (quadGet s.view.peers p).vref = v := by
  simp only [State.freshVrefs, List.mem_filterMap, mem_positions, true_and]
  refine exists_congr fun p => ?_
  by_cases hf : (quadGet s.view.peers p).state = .fresh <;> simp [hf]

/-- The highest vref a FRESH entry reports (R58). -/
theorem State.highest_freshVrefs {s : State} {p : Position} (hp : (quadGet s.view.peers p).state = .fresh)
    (hmax : ∀ q, (quadGet s.view.peers q).state = .fresh →
      (quadGet s.view.peers q).vref ≤ (quadGet s.view.peers p).vref) :
    highestSpeed s.freshVrefs = some (quadGet s.view.peers p).vref := by
  refine highestSpeed_eq_some ((s.mem_freshVrefs _).2 ⟨p, hp, rfl⟩) fun v hv => ?_
  obtain ⟨q, hq, rfl⟩ := (s.mem_freshVrefs v).1 hv
  exact hmax q hq

theorem State.highest_freshVrefs_none {s : State} (h : ∀ p, (quadGet s.view.peers p).state ≠ .fresh) :
    highestSpeed s.freshVrefs = none := by
  have hnil : s.freshVrefs = [] := by
    refine List.eq_nil_iff_forall_not_mem.2 fun v hv => ?_
    obtain ⟨p, hp, -⟩ := (s.mem_freshVrefs v).1 hv
    exact h p hp
  rw [hnil]
  rfl

/-- The peer floor never lowers vref (R58). -/
theorem le_peerFloor (tolerance vref : Nat) (reported : Option Nat) : vref ≤ peerFloor tolerance vref reported := by
  unfold peerFloor
  split
  · split <;> omega
  · exact le_rfl

/-- After the first update vref falls by at most Dramp and rises by at most Aramp (R56, R57). -/
theorem rampedVref_within (q : Params) (prev coasting : Nat) (value : Option Nat) :
    prev - q.dramp ≤ (rampedVref q false prev coasting value).1
      ∧ (rampedVref q false prev coasting value).1 ≤ prev + q.aramp := by
  cases value with
  | none => exact ⟨le_rfl, by simp only [rampedVref]; omega⟩
  | some v => simp only [rampedVref]; omega

/-- vref and the coasting count of an update, by the candidate value (R53 to R59). -/
theorem State.fillLanes_nextVref {s : State} {pair : Sides Sample} {value : Option Nat}
    (h : candidateValue s.pressure.braking s.params.freeRolling (s.fillLanes pair).candidates = value) :
    (s.fillLanes pair).nextVref =
      (peerFloor s.params.tolerance (rampedVref s.params s.view.firstWindow s.view.vref s.view.coasting value).1
        (highestSpeed s.freshVrefs), (rampedVref s.params s.view.firstWindow s.view.vref s.view.coasting value).2) := by
  subst h
  rfl

/-- The candidates of an update, lane by lane (R54). -/
theorem State.mem_fillLanes_candidates (s : State) (pair : Sides Sample) (p : Position) (v : Nat) :
    ⟨p, v⟩ ∈ (s.fillLanes pair).candidates ↔ ∃ i, (sideGet (quadGet (s.filledVector pair) p) i).speed = some v
      ∧ (sideGet (quadGet (s.filledVector pair) p) i).code ≠ .release
      ∧ (p = s.position → (sideGet pair i).state = .running ∧ (sideGet pair i).held = false)
      ∧ (p ≠ s.position → (quadGet s.view.peers p).state = .fresh) := by
  have heligible : ∀ i, (s.fillLanes pair).laneEligible p i = true ↔
      (p = s.position → (sideGet pair i).state = .running ∧ (sideGet pair i).held = false)
        ∧ (p ≠ s.position → (quadGet s.view.peers p).state = .fresh) := by
    intro i
    have hown : sideGet (s.fillLanes pair).view.own i = windowOf (sideGet pair i) := by cases i <;> rfl
    have hposition : (s.fillLanes pair).position = s.position := rfl
    by_cases hp : p = s.position
    · simp [State.laneEligible, hposition, hp, hown, ownEligible, windowOf]
    · simp [State.laneEligible, hposition, hp]
      rfl
  rw [State.mem_candidates]
  exact exists_congr fun i => and_congr_right fun _ => and_congr_right fun _ => heligible i

/-! ### SAMPLE_PAIR (R53, R61, R174, R176) -/

/-- At a reference update the quiet control may end or begin a standstill run, and hands at most the change into QUIET,
in ACTIVE at standstill (R174). -/
theorem State.judgeStandstill_cases (s : State) (pair : Sides Sample) : ∃ rest,
    s.judgeStandstill pair = { s with standstill := (s.judgeStandstill pair).standstill, handed := s.handed ++ rest }
      ∧ (rest = [] ∨ rest = [.quietEntry] ∧ s.fault.mode = .active ∧ s.standstillHolds pair = true) := by
  have hstands : s.handed = s.handed ++ [] := (List.append_nil _).symm
  unfold State.judgeStandstill
  split
  · next hmode =>
    dsimp only
    split
    · next h =>
      obtain ⟨hstill, -⟩ := (Bool.and_eq_true _ _).mp h
      exact ⟨[.quietEntry], rfl, .inr ⟨rfl, hmode, hstill⟩⟩
    · exact ⟨[], by rw [← hstands], .inl rfl⟩
  · exact ⟨[], by rw [← hstands], .inl rfl⟩

/-- A sample pair: the view filled and computed, the update and the wake notice handed, and the change into QUIET at
most (R53, R61, R174, R176). -/
theorem exec_samplePair {s : State} (pair : Sides Sample) (hon : s.unitsOn = true) : ∃ t rest,
    exec (.samplePair pair) s = .next t
      ∧ t = { s with view := (s.fillLanes pair).computeView.view, standstill := t.standstill, handed := t.handed }
      ∧ t.handed = s.handed.erase (.samplePair pair) ++ .referenceUpdate ⟨t.view.vref, pair, t.view.mask⟩
          :: ((if 0 < t.view.vref then [.wakeEvent (.reference t.view.vref)] else []) ++ rest)
      ∧ (rest = [] ∨ rest = [.quietEntry] ∧ s.fault.mode = .active ∧ t.view.vref = 0
        ∧ pair.left.state = .standstill ∧ pair.right.state = .standstill) := by
  have hon' : (s.take (.samplePair pair)).unitsOn = true := hon
  obtain ⟨u, hu⟩ : ∃ u, u = (((s.take (.samplePair pair)).fillLanes pair).computeView).handUpdate pair := ⟨_, rfl⟩
  obtain ⟨rest, ht, hrest⟩ := u.judgeStandstill_cases pair
  have hexec : exec (.samplePair pair) s = .next (u.judgeStandstill pair) := by
    rw [hu]
    exact congrArg Host.Outcome.next (if_pos hon')
  have hview : u.view = (s.fillLanes pair).computeView.view := by rw [hu]; rfl
  have hview' : (u.judgeStandstill pair).view = u.view := by simp
  have hhanded : (u.judgeStandstill pair).handed = u.handed ++ rest := (congrArg State.handed ht :)
  refine ⟨_, rest, hexec, ?_, ?_, ?_⟩
  · rw [hhanded, ← hview]
    refine ht.trans ?_
    rw [hu]
    rfl
  · rw [hview', hhanded, hu]
    simp [State.handUpdate]
  · rw [hview']
    refine hrest.imp_right fun ⟨hquiet, hmode, hstill⟩ => ⟨hquiet, ?_, ?_⟩
    · rw [hu] at hmode
      exact hmode
    · obtain ⟨⟨⟨hv, hl⟩, hr⟩, -⟩ := by simpa [State.standstillHolds] using hstill
      exact ⟨hv, hl, hr⟩

/-- Settles O35: the candidates of the filled vector, their value, the ramps and the floor. -/
theorem vrefTakesCandidateValue : Obligations.VrefTakesCandidateValue := by
  intro pair s hon
  obtain ⟨t, rest, hexec, ht, -, -⟩ := exec_samplePair pair hon
  refine ⟨t, hexec, fun cand value base hcand hvalue hbase => ?_⟩
  have hview : t.view = (s.fillLanes pair).computeView.view := (congrArg State.view ht :)
  have hmem : ∀ p v, cand p v ↔ ⟨p, v⟩ ∈ (s.fillLanes pair).candidates := fun p v => by
    rw [hcand, State.mem_fillLanes_candidates, hview]
    rfl
  have hval : candidateValue s.pressure.braking s.params.freeRolling (s.fillLanes pair).candidates = value := by
    rcases hvalue with ⟨rfl, hnone⟩ | ⟨p, v, hb, rfl, hc, hmax⟩ | ⟨p, v, hb, rfl, hc, hfree, hmax⟩
      | ⟨p, v, hb, rfl, hc, hfree, hmin⟩
    · exact candidateValue_none fun c hc => hnone c.position c.speed ((hmem _ _).2 hc)
    · rw [hb]
      exact candidateValue_braking ((hmem _ _).1 hc) fun d hd => hmax _ _ ((hmem _ _).2 hd)
    · rw [hb]
      exact candidateValue_freeRolling ((hmem _ _).1 hc) hfree fun d hd hf => hmax _ _ hf ((hmem _ _).2 hd)
    · rw [hb]
      exact candidateValue_lowest ((hmem _ _).1 hc) (fun d hd hf => hfree _ _ hf ((hmem _ _).2 hd)) fun d hd =>
        hmin _ _ ((hmem _ _).2 hd)
  have hnext := State.fillLanes_nextVref hval
  have hramp : (rampedVref s.params s.view.firstWindow s.view.vref s.view.coasting value).1 = base := by
    rw [hbase]
    cases value <;> cases s.view.firstWindow <;> rfl
  have hvref : t.view.vref = peerFloor s.params.tolerance base (highestSpeed s.freshVrefs) := by
    rw [hview, ← hramp]
    exact congrArg Prod.fst hnext
  refine ⟨?_, fun hnone => ?_, fun p r hp hr hmax => ?_⟩
  · rw [hview]
    refine (congrArg Prod.snd hnext).trans ?_
    cases value <;> cases s.view.firstWindow <;> rfl
  · rw [hvref, State.highest_freshVrefs_none hnone]
    rfl
  · subst hr
    rw [hvref, State.highest_freshVrefs hp hmax]
    rfl

/-- Without a candidate vref coasts (R57). -/
theorem State.fillLanes_nextVref_none {s : State} {pair : Sides Sample} (hfirst : s.view.firstWindow = false)
    (hpeers : ∀ p, (quadGet s.view.peers p).state ≠ .fresh)
    (hown : ∀ i, (sideGet pair i).state ≠ .running ∨ (sideGet pair i).held = true) :
    (s.fillLanes pair).nextVref = (s.view.vref - s.params.dramp, min 255 (s.view.coasting + 1)) := by
  have hvalue := candidateValue_none (braking := s.pressure.braking) (free := s.params.freeRolling)
    (cs := (s.fillLanes pair).candidates) fun ⟨p, v⟩ hc => by
      obtain ⟨i, -, -, hmine, htheirs⟩ := (s.mem_fillLanes_candidates pair p v).1 hc
      by_cases hp : p = s.position
      · obtain ⟨hrunning, hheld⟩ := hmine hp
        rcases hown i with h | h
        · exact h hrunning
        · simp [hheld] at h
      · exact hpeers p (htheirs hp)
  rw [State.fillLanes_nextVref hvalue, State.highest_freshVrefs_none hpeers, hfirst]
  rfl

/-- The first update while braking, with both own lanes candidates and no peer's, takes the higher own speed (R54, R55,
R59). -/
theorem State.fillLanes_nextVref_first {s : State} {pair : Sides Sample} (hfirst : s.view.firstWindow = true)
    (hbraking : s.pressure.braking = true) (hpeers : ∀ p, (quadGet s.view.peers p).state ≠ .fresh)
    (hown : ∀ i, (sideGet pair i).state = .running ∧ (sideGet pair i).held = false
      ∧ (sideGet (quadGet s.view.lanes s.position) i).code ≠ .release) :
    (s.fillLanes pair).nextVref = (max pair.left.speed pair.right.speed, 0) := by
  have hlane : ∀ i, sideGet (quadGet (s.filledVector pair) s.position) i =
      ⟨some (sideGet pair i).speed, (sideGet pair i).accel, (sideGet (quadGet s.view.lanes s.position) i).code⟩ := by
    intro i
    rw [State.filledVector_own, fillOwn, if_neg (by simp [(hown i).1])]
  have hcandidate : ∀ i, ⟨s.position, (sideGet pair i).speed⟩ ∈ (s.fillLanes pair).candidates := fun i => by
    obtain ⟨hrunning, hheld, hcode⟩ := hown i
    exact (s.mem_fillLanes_candidates pair _ _).2 ⟨i, by rw [hlane], by rw [hlane]; exact hcode,
      fun _ => ⟨hrunning, hheld⟩, fun h => absurd rfl h⟩
  have hmax : ∀ c ∈ (s.fillLanes pair).candidates, c.speed ≤ max pair.left.speed pair.right.speed := fun ⟨p, v⟩ hc => by
    obtain ⟨i, hspeed, -, -, htheirs⟩ := (s.mem_fillLanes_candidates pair p v).1 hc
    obtain rfl : p = s.position := by
      by_contra hp
      exact hpeers p (htheirs hp)
    rw [hlane] at hspeed
    obtain rfl := Option.some.inj hspeed
    cases i
    · exact le_max_left _ _
    · exact le_max_right _ _
  have hmem : ⟨s.position, max pair.left.speed pair.right.speed⟩ ∈ (s.fillLanes pair).candidates := by
    rcases max_choice pair.left.speed pair.right.speed with h | h <;> rw [h]
    · exact hcandidate .left
    · exact hcandidate .right
  have hvalue : candidateValue s.pressure.braking s.params.freeRolling (s.fillLanes pair).candidates =
      some (max pair.left.speed pair.right.speed) := by
    rw [hbraking]
    exact candidateValue_braking hmem hmax
  rw [State.fillLanes_nextVref hvalue, State.highest_freshVrefs_none hpeers, hfirst]
  rfl

/-- Settles O34: the filled vector, the hand-offs, vref by its candidates, and the mask of that vector. -/
theorem samplePairRampsVref : Obligations.SamplePairRampsVref := by
  intro pair s hon
  obtain ⟨t, rest, hexec, ht, hhanded, hrest⟩ := exec_samplePair pair hon
  have hview : t.view = (s.fillLanes pair).computeView.view := (congrArg State.view ht :)
  have hvref : t.view.vref = (s.fillLanes pair).nextVref.1 := by rw [hview]; rfl
  have hcoasting : t.view.coasting = (s.fillLanes pair).nextVref.2 := by rw [hview]; rfl
  have hlanes : t.view.lanes = s.filledVector pair := by rw [hview]; rfl
  have hmask : t.view.mask = maskOf t.view.lanes := by rw [hview]; rfl
  have hnext := State.fillLanes_nextVref (s := s) (pair := pair) rfl
  refine ⟨t, hexec, ?_, by rw [hview]; rfl, by rw [hview]; rfl, by rw [hview]; rfl, by rw [hview]; rfl, ?_, ?_,
    ⟨rest, hhanded, hrest⟩, ?_, ?_, ?_, ?_, ?_⟩
  · rw [hview]
    exact ht
  · rintro i x code rfl rfl
    rw [hlanes, State.filledVector_own]
    refine ⟨rfl, ?_⟩
    rw [hview]
    cases i <;> rfl
  · rintro q e hq rfl
    rw [hlanes, State.filledVector_peer pair hq]
    refine ⟨fun h => ?_, fun h => ?_⟩ <;> rcases h with h | h <;> simp [vectorLanes, h, Lane.absent]
  · intro hfirst
    rw [hvref, hnext, hfirst]
    exact (rampedVref_within _ _ _ _).1.trans (le_peerFloor _ _ _)
  · intro hfirst hpeers
    rw [hvref, hnext, hfirst, State.highest_freshVrefs_none hpeers]
    exact (rampedVref_within _ _ _ _).2
  · intro hfirst hpeers hleft hright
    rw [hvref, hcoasting, State.fillLanes_nextVref_none hfirst hpeers fun i => by cases i <;> assumption]
    exact ⟨rfl, rfl⟩
  · intro hfirst hpeers hbraking hl hlheld hr hrheld hlcode hrcode
    rw [hvref, hcoasting, State.fillLanes_nextVref_first hfirst hbraking hpeers fun i => ?_]
    · exact ⟨rfl, rfl⟩
    · cases i
      · exact ⟨hl, hlheld, hlcode⟩
      · exact ⟨hr, hrheld, hrcode⟩
  · intro p i n hn
    have hn' : n = laneNumber p i := by
      rw [hn]
      cases i <;> rfl
    rw [hmask, hn', maskOf_getLsbD, laneActive, Bool.and_eq_true, laneAntiLock_iff]

end Sys2Proof.Machine

namespace Sys2Proof.Machine

/-! ## Giving up from STARTING or PASSIVE (R88, R147, R154) -/

/-- A channel's record after a forcing: a PASSIVE one stands (R88). -/
def forcedOnce (r : ChannelRec) : ChannelRec := if r.phase = .passive then r else forcedRecord r

/-- What a forcing hands on: nothing for a channel that is PASSIVE already (R86, R88). -/
def forceHandoffs (c : Channel) (r : ChannelRec) : List Instr :=
  if r.phase = .passive then [] else phaseHandoffs c (forcedRecord r)

theorem State.force_eq (s : State) (c : Channel) : s.force c =
    { s with slip := chanSet s.slip c (forcedOnce (chanGet s.slip c))
             handed := s.handed ++ forceHandoffs c (chanGet s.slip c) } := by
  unfold State.force forcedOnce forceHandoffs
  split
  · rw [chanSet_chanGet, List.append_nil]
  · rfl

/-- Every channel forced, channel 1 first (R88, R154; log entry 1). -/
theorem State.forceAll_eq (s : State) : s.forceAll =
    { s with slip := ⟨forcedOnce s.slip.ch1, forcedOnce s.slip.ch2⟩
             handed := s.handed ++ forceHandoffs .ch1 s.slip.ch1 ++ forceHandoffs .ch2 s.slip.ch2 } := by
  rw [State.forceAll, State.force_eq, State.force_eq]
  rfl

/-- What giving up hands on besides the alert: the mode to the driver, each forcing, and the test-abort notice for a
channel in TEST (R147, R154; log entry 1). -/
def State.giveUpHandoffs (s : State) (m : Mode) : List Instr :=
  [.modeChangeToDriver m] ++ forceHandoffs .ch1 s.slip.ch1 ++ forceHandoffs .ch2 s.slip.ch2
    ++ if s.inTest then [.abortEvent (.modeChange m)] else []

/-- Giving up from STARTING or PASSIVE: the mode, the forcings and the hand-offs, and nothing else (R147, R154). -/
theorem State.giveUp_eq {s : State} {m : Mode}
    (h : s.fault.mode = .starting ∧ (m = .passive ∨ m = .latched) ∨ s.fault.mode = .passive ∧ m = .latched) :
    s.giveUp m =
      { s with fault := { s.fault with mode := m }, slip := ⟨forcedOnce s.slip.ch1, forcedOnce s.slip.ch2⟩
               handed := s.handed ++ s.giveUpHandoffs m } := by
  have hset : s.setMode m =
      { s with fault := { s.fault with mode := m }, handed := s.handed ++ [.modeChangeToDriver m] } := by
    rcases h with ⟨h, rfl | rfl⟩ | ⟨h, rfl⟩ <;> simp [State.setMode, State.hand, modeHandoffs, h]
  have hservice : s.fault.mode ≠ .service := by
    rcases h with ⟨h, -⟩ | ⟨h, -⟩ <;> simp [h]
  rw [State.giveUp, hset, State.forceAll_eq]
  by_cases ht : s.inTest = true <;> simp [ht, hservice, State.hand, State.giveUpHandoffs]

/-! ## END_OF_STARTING (R159) -/

/-- What settling the working mode may write: the mode, the channel records, the standstill run and the hand-offs. -/
def ModeSettled (s t : State) : Prop :=
  t = { s with fault := { s.fault with mode := t.fault.mode }, slip := t.slip, standstill := t.standstill
               handed := t.handed }

theorem State.setMode_settles (s : State) (m : Mode) : ModeSettled s (s.setMode m) := by
  unfold ModeSettled State.setMode
  split <;> rfl

theorem State.toLatched_settles {s : State} (code : Nat) (h : s.fault.mode = .starting ∨ s.fault.mode = .passive) :
    ModeSettled s (s.toLatched code) := by
  rw [State.toLatched, State.giveUp_eq (h.imp (fun h => ⟨h, .inr rfl⟩) fun h => ⟨h, rfl⟩)]
  rfl

theorem State.settleWorkingMode_settles (s : State) : ModeSettled s s.settleWorkingMode := by
  unfold State.settleWorkingMode
  split
  case h_1 h =>
    split
    · exact s.toLatched_settles _ (.inl h)
    split
    · exact s.setMode_settles .active
    · exact congrArg (State.hand · _) (s.setMode_settles .held)
  case h_2 h =>
    split
    · exact s.toLatched_settles _ (.inr h)
    · exact rfl
  all_goals exact rfl

/-- A captured record that carries its latch flag leads to LATCHED from STARTING and PASSIVE (R159). -/
theorem State.settleWorkingMode_latched {s : State} {r : FaultRecord}
    (h : s.fault.mode = .starting ∨ s.fault.mode = .passive) (hr : s.fault.record = some r) (hlatch : r.latch = true) :
    s.settleWorkingMode =
      { s with
        fault := { s.fault with mode := .latched }, slip := ⟨forcedOnce s.slip.ch1, forcedOnce s.slip.ch2⟩
        handed := s.handed ++ s.giveUpHandoffs .latched ++ [moduleAlert .moduleLatched (causeCode r.cause)] } := by
  have hlatched : s.settleWorkingMode = s.toLatched (causeCode r.cause) := by
    rcases h with h | h <;> simp [State.settleWorkingMode, h, hr, recordLatched, hlatch, recordCode]
  rw [hlatched, State.toLatched, State.giveUp_eq (h.imp (fun h => ⟨h, .inr rfl⟩) fun h => ⟨h, rfl⟩)]
  rfl

theorem recordLatched_eq_false {record : Option FaultRecord} (h : ∀ r, record = some r → r.latch = false) :
    recordLatched record = false := by
  cases record with
  | none => rfl
  | some r => exact h r rfl

/-- From STARTING without a latched record the mode becomes ACTIVE, or HELD with a reversible cause held (R159). -/
theorem State.settleWorkingMode_starting {s : State} (h : s.fault.mode = .starting)
    (hr : ∀ r, s.fault.record = some r → r.latch = false) : s.settleWorkingMode =
      if s.fault.held.isEmpty then
        { s with fault := { s.fault with mode := .active }, handed := s.handed ++ [.modeChangeToDriver .active] }
      else
        { s with
          fault := { s.fault with mode := .held }
          handed := s.handed ++ [.modeChangeToDriver .held, moduleAlert .moduleHeld s.fault.held.lowestCode] } := by
  have hset : ∀ m, m = .active ∨ m = .held → s.setMode m =
      { s with fault := { s.fault with mode := m }, handed := s.handed ++ [.modeChangeToDriver m] } := by
    rintro m (rfl | rfl) <;> simp [State.setMode, State.hand, modeHandoffs, h]
  simp only [State.settleWorkingMode, h, recordLatched_eq_false hr, Bool.false_eq_true, if_false, State.toHeld,
    hset _ (.inl rfl), hset _ (.inr rfl)]
  split
  · rfl
  · simp [State.hand]

/-- Settles O19: the table of R159, row by row. -/
theorem endOfStartingSettlesMode : Obligations.EndOfStartingSettlesMode := by
  intro s forced tell hbegun hforced htell
  obtain rfl : forced = forcedOnce := funext hforced
  obtain rfl : tell = fun ch => forceHandoffs ch (chanGet s.slip ch) := funext htell
  obtain ⟨u, hu⟩ : ∃ u, u = s.take .endOfStarting := ⟨_, rfl⟩
  have hexec : exec .endOfStarting s = .next u.settleWorkingMode.startMissingTimer := by
    rw [hu]
    exact congrArg Host.Outcome.next (if_pos hbegun)
  have hfault : u.fault = s.fault := by rw [hu]; rfl
  refine ⟨_, hexec, ?_, fun r h hr hlatch => ?_, fun h hr hheld => ?_, fun h hr hheld => ?_, fun h hr hheld => ?_,
    fun h hr => ?_, fun h => ?_⟩
  · rw [hu]
    exact congrArg State.startMissingTimer (s.take .endOfStarting).settleWorkingMode_settles
  · rw [State.settleWorkingMode_latched (hfault ▸ h) (hfault ▸ hr) hlatch, hu]
    refine ⟨rfl, rfl, rfl, ?_⟩
    simp [State.startMissingTimer, State.giveUpHandoffs, State.inTest, moduleAlert, chanGet]
  · rw [State.settleWorkingMode_starting (hfault ▸ h) (hfault ▸ hr), hfault, hheld, hu]
    exact ⟨rfl, rfl, rfl⟩
  · have hempty : s.fault.held.isEmpty = false := by simp [HeldSet.isEmpty, hheld]
    have hcode : s.fault.held.lowestCode = 9 := by simp [HeldSet.lowestCode, hheld]
    rw [State.settleWorkingMode_starting (hfault ▸ h) (hfault ▸ hr), hfault, hempty, hcode, hu]
    exact ⟨rfl, rfl, rfl⟩
  · rw [State.settleWorkingMode_starting (hfault ▸ h) (hfault ▸ hr), hfault, hheld, hu]
    exact ⟨rfl, rfl, rfl⟩
  · have hstands : u.settleWorkingMode = u := by
      simp [State.settleWorkingMode, hfault, h, recordLatched_eq_false hr]
    rw [hstands, hu]
    exact ⟨h, rfl, rfl⟩
  · have hstands : u.settleWorkingMode = u := by simp [State.settleWorkingMode, hfault, h]
    rw [hstands, hu]
    exact ⟨h, rfl, rfl⟩

end Sys2Proof.Machine

namespace Sys2Proof.Machine

/-! ## CONFIG_BAD (R152, R160 to R163) -/

/-- A module fault gives up with its alert: PASSIVE from STARTING (R152). -/
theorem State.moduleFault_starting {s : State} (code : Nat) (h : s.fault.mode = .starting) : s.moduleFault code =
    { s with fault := { s.fault with mode := .passive }, slip := ⟨forcedOnce s.slip.ch1, forcedOnce s.slip.ch2⟩
             handed := s.handed ++ s.giveUpHandoffs .passive ++ [moduleAlert .modulePassive code] } := by
  have hto : s.moduleFault code = s.toPassive code := by simp [State.moduleFault, h]
  rw [hto, State.toPassive, State.giveUp_eq (.inl ⟨h, .inl rfl⟩)]
  rfl

/-- LATCHED from PASSIVE (R152). -/
theorem State.moduleFault_passive {s : State} (code : Nat) (h : s.fault.mode = .passive) : s.moduleFault code =
    { s with fault := { s.fault with mode := .latched }, slip := ⟨forcedOnce s.slip.ch1, forcedOnce s.slip.ch2⟩
             handed := s.handed ++ s.giveUpHandoffs .latched ++ [moduleAlert .moduleLatched code] } := by
  have hto : s.moduleFault code = s.toLatched code := by simp [State.moduleFault, h]
  rw [hto, State.toLatched, State.giveUp_eq (.inr ⟨h, rfl⟩)]
  rfl

/-- In LATCHED a module fault changes nothing (R152). -/
theorem State.moduleFault_latched {s : State} (code : Nat) (h : s.fault.mode = .latched) : s.moduleFault code = s := by
  simp [State.moduleFault, h]

/-- The fault memory after CONFIG_BAD has led to the mode `m`: the cause seen, and a record captured or latched (R161 to
R163). -/
def FaultUnit.afterConfigBad (f : FaultUnit) (vref : Nat) (m : Mode) : FaultUnit :=
  { f with
    mode := m, seen := f.seen ||| 1024#16
    record := some (f.record.elim ⟨.configBad, none, none, f.mode, f.millis, vref, decide (m = .latched)⟩ fun r =>
      if m = .latched then latchRecord r else r) }

/-- CONFIG_BAD taken whole, by what its class does to mode, channels and hand-offs (R148, R152, R161 to R163). -/
theorem State.takeNotice_configBad {s : State} {m : Mode} {slip : Chans ChannelRec} {handed : List Instr}
    (h : (s.seeCause .configBad).moduleFault 11 = { s.seeCause .configBad with
      fault := { (s.seeCause .configBad).fault with mode := m }, slip := slip, handed := handed }) :
    s.takeNotice .configBad =
      { s with fault := s.fault.afterConfigBad s.view.vref m, slip := slip, handed := handed } := by
  have hladder : (s.seeCause .configBad).ladder .configBad = (s.seeCause .configBad).moduleFault 11 := rfl
  rw [State.takeNotice, noticeCause, hladder, h]
  cases hr : s.fault.record with
  | none =>
    simp [State.capture, hr, captures, captureOf, FaultUnit.afterConfigBad, noticeCause, State.seeCause, causeBit,
      causeCode]
  | some r =>
    by_cases hm : m = .latched <;>
      simp [State.capture, hr, State.latchFlag, FaultUnit.afterConfigBad, hm, State.seeCause, causeBit, causeCode]

/-! ## The lane copies taken at the listen expiry (R51; log entry 10) -/

/-- A hand-off that is no lane copy stays handed. -/
theorem State.mem_takeCopies {s : State} {c : Instr} (hc : ∀ ch ph, c ≠ .lanePhaseCopy ch ph) (h : c ∈ s.handed) :
    c ∈ s.takeCopies.handed := by
  refine foldl_takeCopy (P := fun x => c ∈ x.handed) (fun x d hx => ?_) s.handed s h
  unfold State.takeCopy
  split
  · next ch ph =>
    have herase : c ∈ x.handed.erase (.lanePhaseCopy ch ph) := (List.mem_erase_of_ne (hc ch ph)).2 hx
    simpa using herase
  · exact hx

/-- Every lane copy of some hand-offs carries PASSIVE. -/
def copiesPassive (cs : List Instr) : Prop := ∀ ch ph, .lanePhaseCopy ch ph ∈ cs → ph = Phase.passive

theorem State.takeCopy_ownLanes {s : State} (hbegun : s.begun = true) (ch : Channel) (ph : Phase) :
    (s.takeCopy (.lanePhaseCopy ch ph)).ownLanes = copyCode s.arrangement ch (phaseLaneCode ph) s.ownLanes := by
  have hcopy : s.takeCopy (.lanePhaseCopy ch ph) = { s.take (.lanePhaseCopy ch ph) with view := { s.view with
      lanes := quadSet s.view.lanes s.position (copyCode s.arrangement ch (phaseLaneCode ph) s.ownLanes) } } :=
    if_pos hbegun
  rw [hcopy]
  exact quadGet_quadSet _ _ _

/-- A lane takes the code of the channel that serves its side (R16, R51). -/
theorem copyCode_served (a : Arrangement) (i : Side) (code : LaneCode) (x : Sides Lane) :
    (sideGet (copyCode a (servedChannel a i) code x) i).code = code := by
  cases a <;> cases i <;> rfl

/-- A lane that carries a code keeps it when that code is copied. -/
theorem copyCode_keeps (a : Arrangement) (c : Channel) {code : LaneCode} {x : Sides Lane} {i : Side}
    (h : (sideGet x i).code = code) : (sideGet (copyCode a c code x) i).code = code := by
  rw [copyCode_eq]
  cases i with
  | left => exact (apply_ite Lane.code _ _ _).trans (by rw [show x.left.code = code from h, ite_self])
  | right => exact (apply_ite Lane.code _ _ _).trans (by rw [show x.right.code = code from h, ite_self])

/-- A lane in PASSIVE stays there under copies that carry PASSIVE. -/
theorem foldl_takeCopy_passive {i : Side} {cs : List Instr} : ∀ {s : State}, s.begun = true → copiesPassive cs →
    (sideGet s.ownLanes i).code = .passive → (sideGet (cs.foldl State.takeCopy s).ownLanes i).code = .passive := by
  induction cs with
  | nil => exact fun _ _ h => h
  | cons c cs ih =>
    intro s hbegun hcs h
    have hrest : copiesPassive cs := fun ch ph hmem => hcs ch ph (List.mem_cons_of_mem _ hmem)
    have hfirst : (sideGet (s.takeCopy c).ownLanes i).code = .passive := by
      by_cases hc : ∃ ch ph, c = .lanePhaseCopy ch ph
      · obtain ⟨ch, ph, rfl⟩ := hc
        obtain rfl := hcs ch ph List.mem_cons_self
        rw [State.takeCopy_ownLanes hbegun]
        exact copyCode_keeps _ _ h
      · have hnone : s.takeCopy c = s := by
          unfold State.takeCopy
          split
          · next ch ph => exact absurd ⟨ch, ph, rfl⟩ hc
          · rfl
        rwa [hnone]
    exact ih ((State.begun_eq (by simp)).trans hbegun) hrest hfirst

/-- Where a PASSIVE copy of the channel that serves a side was handed and every later copy is PASSIVE, the lane of that
side is PASSIVE once the copies are taken (R51, R86). -/
theorem State.takeCopies_passive {s : State} {i : Side} {before after : List Instr} (hbegun : s.begun = true)
    (hhanded : s.handed = before ++ .lanePhaseCopy (servedChannel s.arrangement i) .passive :: after)
    (hafter : copiesPassive after) : (sideGet s.takeCopies.ownLanes i).code = .passive := by
  have hstartup : (before.foldl State.takeCopy s).startup = s.startup :=
    foldl_takeCopy (P := fun x => x.startup = s.startup) (fun x d hx => by simpa using hx) before s rfl
  have hbegun' := (State.begun_eq hstartup).trans hbegun
  rw [State.takeCopies, hhanded, List.foldl_append, List.foldl_cons]
  refine foldl_takeCopy_passive ((State.begun_eq (by simp)).trans hbegun') hafter ?_
  rw [State.takeCopy_ownLanes hbegun', State.arrangement_eq hstartup]
  exact copyCode_served _ _ _ _

theorem forceHandoffs_copiesPassive (c : Channel) (r : ChannelRec) : copiesPassive (forceHandoffs c r) := by
  intro ch ph h
  unfold forceHandoffs at h
  split at h
  · cases h
  · obtain ⟨rfl, rfl⟩ : ch = c ∧ ph = .passive := by simpa [phaseHandoffs, forcedRecord] using h
    rfl

/-- A channel forced in giving up has its PASSIVE copy handed, with no copy of another phase after it (R86, R154). -/
theorem State.giveUpHandoffs_copy {s : State} {c : Channel} (m : Mode) (h : (chanGet s.slip c).phase ≠ .passive) :
    ∃ before after, s.giveUpHandoffs m = before ++ .lanePhaseCopy c .passive :: after ∧ copiesPassive after := by
  have htest : copiesPassive (if s.inTest then [.abortEvent (.modeChange m)] else []) := by
    intro ch ph hmem
    split at hmem <;> simp at hmem
  have hcopies : ∀ {as bs : List Instr}, copiesPassive as → copiesPassive bs → copiesPassive (as ++ bs) :=
    fun ha hb ch ph hmem => (List.mem_append.1 hmem).elim (ha ch ph) (hb ch ph)
  have hforced : forceHandoffs c (chanGet s.slip c) =
      [.phaseHandoff c .passive (chanGet s.slip c).cap] ++ [.lanePhaseCopy c .passive] := if_neg h
  cases c with
  | ch1 =>
    refine ⟨[.modeChangeToDriver m, .phaseHandoff .ch1 .passive s.slip.ch1.cap], forceHandoffs .ch2 s.slip.ch2
      ++ if s.inTest then [.abortEvent (.modeChange m)] else [], ?_, hcopies (forceHandoffs_copiesPassive _ _) htest⟩
    simp only [chanGet] at hforced
    simp [State.giveUpHandoffs, hforced]
  | ch2 =>
    refine ⟨[.modeChangeToDriver m] ++ forceHandoffs .ch1 s.slip.ch1 ++ [.phaseHandoff .ch2 .passive s.slip.ch2.cap],
      if s.inTest then [.abortEvent (.modeChange m)] else [], ?_, htest⟩
    simp only [chanGet] at hforced
    simp [State.giveUpHandoffs, hforced]

/-- After a forcing of both channels each is PASSIVE (R154). -/
theorem forcedOnce_phase (x : Chans ChannelRec) (c : Channel) :
    (chanGet ⟨forcedOnce x.ch1, forcedOnce x.ch2⟩ c).phase = .passive := by
  have hforced : ∀ r, (forcedOnce r).phase = .passive := by
    intro r
    unfold forcedOnce
    split
    · assumption
    · rfl
  cases c <;> exact hforced _

/-! ## LISTEN_EXPIRY and STARTING_EXPIRY (R185, R186) -/

/-- The listen expiry, whatever the config-bad mark: the transmitter, the stage and the first STATUS (R125, R132,
R185). -/
theorem exec_listenExpiry_due {s : State} {m : Time} (hstage : s.startup.stage = .listening)
    (hdue : timerDue s.startup.listenTimer m = true) : exec (.listenExpiry m) s =
      .next ((((s.stamp m).raiseConfigBad.enableTransmitter).beginReporting m).report m 10000) :=
  congrArg Host.Outcome.next (if_pos (by simp [hstage, hdue]))

/-- The listen expiry under the config-bad mark, by what CONFIG_BAD does: its fault memory, channels and hand-offs, and
the first STATUS composed once the forced phases are copied (R51, R132, R152, R185; log entry 10). -/
theorem exec_listenExpiry_configBad {s : State} {m : Time} {mode : Mode} {slip : Chans ChannelRec} {handed : List Instr}
    (hstage : s.startup.stage = .listening) (hdue : timerDue s.startup.listenTimer m = true)
    (hbad : s.startup.configBad = true)
    (h : (s.stamp m).takeNotice .configBad =
      { s.stamp m with fault := s.fault.afterConfigBad s.view.vref mode, slip := slip, handed := handed }) :
    ∃ t r, exec (.listenExpiry m) s = .next t ∧ t.fault = s.fault.afterConfigBad s.view.vref mode ∧ t.slip = slip
      ∧ t.link.tx = .enabled ∧ t.link.status.waiting = some r ∧ r.mode = mode ∧ t.startup.stage = .reporting
      ∧ t.composer.timer = some ⟨m, 10000⟩ ∧ (∀ c ∈ handed, (∀ ch ph, c ≠ .lanePhaseCopy ch ph) → c ∈ t.handed)
      ∧ ∀ i before after, handed = before ++ .lanePhaseCopy (servedChannel s.arrangement i) .passive :: after →
        copiesPassive after → (sideGet (⟨r.left, r.right⟩ : Sides Lane) i).code = .passive := by
  have hraise : (s.stamp m).raiseConfigBad = ((s.stamp m).takeNotice .configBad).takeCopies := if_pos hbad
  obtain ⟨u, hu⟩ : ∃ u, u = (s.stamp m).takeNotice .configBad := ⟨_, rfl⟩
  have hexec := exec_listenExpiry_due hstage hdue
  rw [hraise, ← hu] at hexec
  rw [h] at hu
  have hbegun : u.begun = true := by
    rw [hu]
    simp [State.begun, hstage]
  have harrangement : u.arrangement = s.arrangement := by rw [hu]; rfl
  have hfault : u.takeCopies.fault = s.fault.afterConfigBad s.view.vref mode := by simp [hu]
  have hslip : u.takeCopies.slip = slip := by simp [hu]
  have hhanded : u.handed = handed := by rw [hu]
  refine ⟨_, ((u.takeCopies.enableTransmitter).beginReporting m).composed, hexec, hfault, hslip, rfl, rfl, ?_, rfl, rfl,
    fun c hc hnone => ?_, fun i before after hsplit hafter => ?_⟩
  · exact congrArg FaultUnit.mode hfault
  · exact State.mem_takeCopies hnone (hhanded ▸ hc)
  · have hcode := State.takeCopies_passive (i := i) hbegun (by rw [hhanded, harrangement, hsplit]) hafter
    cases i <;> exact hcode

/-- Settles O18: the listen expiry without and with the config-bad mark, the void expiries, and the STARTING expiry. -/
theorem listenAndStartingExpiries : Obligations.ListenAndStartingExpiries := by
  refine ⟨fun m s hstage hdue => ⟨fun hgood => ?_, fun hbad hmode => ?_, fun hbad hmode => ?_⟩,
    fun m s => ⟨fun h => ?_, fun h => ?_⟩, fun m s hstage hdue => ?_⟩
  · rw [exec_listenExpiry_due hstage hdue, State.raiseConfigBad, if_neg (by simp [hgood])]
    rfl
  · obtain ⟨t, r, hexec, hfault, hslip, htx, hwait, hr, hstage', htimer, hhanded, hlane⟩ := exec_listenExpiry_configBad
      hstage hdue hbad (State.takeNotice_configBad (s := s.stamp m) (State.moduleFault_starting 11 hmode))
    have hcode : s.slip.ch1.phase ≠ .passive → (s.arrangement = .split → s.slip.ch2.phase ≠ .passive) →
        ∀ i, (sideGet (⟨r.left, r.right⟩ : Sides Lane) i).code = .passive := by
      intro h1 h2 i
      have hne : (chanGet s.slip (servedChannel s.arrangement i)).phase ≠ .passive := by
        rw [servedChannel_eq]
        split
        · next h => exact h2 h.1
        · exact h1
      obtain ⟨before, after, hcopy, hafter⟩ :=
        State.giveUpHandoffs_copy (s := (s.stamp m).seeCause .configBad) .passive hne
      refine hlane i (s.handed ++ before) (after ++ [moduleAlert .modulePassive 11]) (by rw [hcopy]; simp) ?_
      intro ch ph hmem
      exact hafter ch ph (by simpa [moduleAlert] using hmem)
    refine ⟨t, r, hexec, by rw [hfault]; rfl, fun c => by rw [hslip]; exact forcedOnce_phase _ c, htx,
      by rw [hfault]; rfl, hwait, hr, hstage', htimer, fun h1 h2 => ⟨hcode h1 h2 .left, hcode h1 h2 .right⟩,
      hhanded _ (by simp [State.giveUpHandoffs]) nofun, hhanded _ (by simp [moduleAlert]) nofun, ?_⟩
    rw [hfault]
    cases hrec : s.fault.record <;> simp [FaultUnit.afterConfigBad, hrec, hmode]
  · have hrecord : (s.fault.afterConfigBad s.view.vref .latched).record = (match s.fault.record with
        | some f => some { f with latch := true }
        | none => some ⟨.configBad, none, none, s.fault.mode, s.fault.millis, s.view.vref, true⟩) := by
      cases hrec : s.fault.record <;> simp [FaultUnit.afterConfigBad, hrec, latchRecord]
    rcases hmode with hmode | hmode
    · obtain ⟨t, r, hexec, hfault, hslip, htx, hwait, hr, hstage', htimer, hhanded, -⟩ := exec_listenExpiry_configBad
        hstage hdue hbad (State.takeNotice_configBad (s := s.stamp m) (State.moduleFault_passive 11 hmode))
      exact ⟨t, r, hexec, by rw [hfault]; rfl, fun h => absurd (hmode.symm.trans h) (by decide),
        fun _ c => by rw [hslip]; exact forcedOnce_phase _ c, fun _ => hhanded _ (by simp [moduleAlert]) nofun, htx,
        by rw [hfault]; rfl, hwait, hr, hstage', htimer, by rw [hfault]; exact hrecord⟩
    · have hlatched := State.moduleFault_latched (s := (s.stamp m).seeCause .configBad) 11 hmode
      have hkept : (s.stamp m).seeCause .configBad = { (s.stamp m).seeCause .configBad with
          fault := { ((s.stamp m).seeCause .configBad).fault with mode := .latched }, slip := s.slip
          handed := s.handed } := by
        rw [← hmode]
        rfl
      obtain ⟨t, r, hexec, hfault, hslip, htx, hwait, hr, hstage', htimer, -, -⟩ := exec_listenExpiry_configBad
        hstage hdue hbad (State.takeNotice_configBad (s := s.stamp m) (hlatched.trans hkept))
      exact ⟨t, r, hexec, by rw [hfault]; rfl, fun _ => hslip, fun h => absurd (hmode.symm.trans h) (by decide),
        fun h => absurd (hmode.symm.trans h) (by decide), htx, by rw [hfault]; rfl, hwait, hr, hstage', htimer,
        by rw [hfault]; exact hrecord⟩
  · refine congrArg Host.Outcome.next (if_neg ?_)
    rcases h with h | h <;> simp [h]
  · refine congrArg Host.Outcome.next (if_neg ?_)
    rcases h with h | h <;> simp [h]
  · exact congrArg Host.Outcome.next (if_pos (by simp [hstage, hdue]))

end Sys2Proof.Machine

namespace Sys2Proof.Machine

/-! ## Hand-offs in their order (R86, R147, R155) -/

/-- Every hand-off whose order a rule fixes is taken in its turn (log entry 1). -/
theorem exec_eq_takeInTurn {c : Instr} {k : HandOffOrder} (h : handOffOrder c = some k) (s : State) :
    ∃ f, exec c s = .next (s.takeInTurn c f) := by
  unfold handOffOrder at h
  split at h
  case h_9 => cases h
  all_goals exact ⟨_, rfl⟩

/-- A hand-off behind another of its order is out of turn. -/
theorem State.inTurn_behind {s : State} {c d : Instr} {k : HandOffOrder} (h : handOffOrder c = some k)
    (hd : s.handed.find? (fun x => decide (handOffOrder x = some k)) = some d) (hne : d ≠ c) : s.inTurn c = false := by
  rw [← Bool.not_eq_true, State.inTurn_iff s c k h]
  exact fun hall => hne (hall d hd)

/-- Settles O12: out of turn nothing changes, and the orders of R86, R147 and R155. -/
theorem handOffsKeepTheirOrder : Obligations.HandOffsKeepTheirOrder := by
  refine ⟨fun c d k s h hd hne => ?_, fun _ _ _ => ⟨rfl, rfl, rfl⟩, fun _ _ => ⟨rfl, rfl, rfl, rfl⟩,
    fun k ch v honset hend => ?_⟩
  · obtain ⟨f, hexec⟩ := exec_eq_takeInTurn h s
    rw [hexec, State.takeInTurn, State.inTurn_behind h hd hne]
    rfl
  · have hfault : fromFaultUnit k = true := by simp [fromFaultUnit, honset, hend]
    exact if_pos hfault

end Sys2Proof.Machine

namespace Sys2Proof.Machine

/-! ## What a channel's evaluation hands on (R86, R87) -/

/-- The alert that the phase before and the record after name (R87). -/
def phaseAlert (before after : ChannelRec) : Option (AlertKind × Nat) :=
  if after.phase = .hold ∧ (before.phase = .follow ∨ before.phase = .capped) then some (.lockOnset, after.pLock)
  else if after.phase = .follow ∧ isAntiLock before.phase = true then some (.cycleEnd, 0)
  else none

/-- The release count runs out as RELEASE is left for HOLD (R78). -/
def phaseOverrun (before after : ChannelRec) : Bool :=
  decide (after.phase = .hold ∧ before.phase = .release ∧ before.releaseCount < after.releaseCount)

/-- An outcome tells what its change of phase names, and nothing else. -/
structure ChannelOutcome.TellsPhase (before : ChannelRec) (o : ChannelOutcome) : Prop where
  alert : o.alert = phaseAlert before o.record
  overrun : o.overrun = phaseOverrun before o.record

/-- A phase that stands is told to nobody. -/
theorem silently_tells_of_same {r x : ChannelRec} (h : x.phase = r.phase) : (silently x).TellsPhase r := by
  constructor <;> cases hp : r.phase <;> simp [silently, phaseAlert, phaseOverrun, h, hp, isAntiLock]

/-- Entering a phase other than HOLD and FOLLOW is told to nobody. -/
theorem silently_tells_of_ne {r x : ChannelRec} (hhold : x.phase ≠ .hold) (hfollow : x.phase ≠ .follow) :
    (silently x).TellsPhase r := by
  constructor <;> simp [silently, phaseAlert, phaseOverrun, hhold, hfollow]

/-- Entering FOLLOW is told only from an anti-lock phase. -/
theorem silently_tells_of_follow {r x : ChannelRec} (h : x.phase = .follow) (hr : isAntiLock r.phase = false) :
    (silently x).TellsPhase r := by
  constructor <;> simp [silently, phaseAlert, phaseOverrun, h, hr]

theorem withCycleEnd_tells {r x : ChannelRec} (h : x.phase = .follow) (hr : isAntiLock r.phase = true) :
    (withCycleEnd x).TellsPhase r := by
  constructor <;> simp [withCycleEnd, phaseAlert, phaseOverrun, h, hr]

theorem lockOnset_tells (x : ChannelInput) {r : ChannelRec} (hr : r.phase = .follow ∨ r.phase = .capped) :
    (lockOnset x r).TellsPhase r := by
  constructor <;> rcases hr with hr | hr <;> simp [lockOnset, phaseAlert, phaseOverrun, hr]

section
variable (q : Params) (x : ChannelInput) {r : ChannelRec}

theorem awaitFault_tells (r : ChannelRec) : (silently (awaitFault r)).TellsPhase r := by
  by_cases h : r.phase = .release
  · constructor <;> simp [silently, awaitFault, phaseAlert, phaseOverrun, h]
  · exact silently_tells_of_same (if_neg h)

theorem handBack_tells (r : ChannelRec) : (handBack r).TellsPhase r := by
  unfold handBack
  dsimp only
  split
  · exact silently_tells_of_same rfl
  split
  · next h => exact withCycleEnd_tells rfl h
  · next h => exact silently_tells_of_follow rfl (by simpa using h)

theorem evalStanding_tells (r : ChannelRec) : (evalStanding r).TellsPhase r := by
  unfold evalStanding
  split
  · next h => exact silently_tells_of_follow rfl (by simp [h, isAntiLock])
  · exact silently_tells_of_same rfl

theorem evalFollow_tells (h : r.phase = .follow) : (evalFollow q x r).TellsPhase r := by
  unfold evalFollow
  split
  · exact lockOnset_tells x (.inl h)
  split
  · exact silently_tells_of_same rfl
  split
  · exact silently_tells_of_same rfl
  all_goals
    split
    · exact silently_tells_of_same rfl
    · exact silently_tells_of_ne nofun nofun

theorem evalCapped_tells (h : r.phase = .capped) : (evalCapped q x r).TellsPhase r := by
  have hfree : isAntiLock r.phase = false := by rw [h]; rfl
  unfold evalCapped
  split
  · exact lockOnset_tells x (.inr h)
  split
  · exact silently_tells_of_follow rfl hfree
  split
  · exact silently_tells_of_follow rfl hfree
  · exact silently_tells_of_same rfl

theorem evalHold_tells (h : r.phase = .hold) : (evalHold q x r).TellsPhase r := by
  unfold evalHold
  split
  · exact silently_tells_of_ne nofun nofun
  split
  · split
    · exact withCycleEnd_tells rfl (by rw [h]; rfl)
    · exact silently_tells_of_same rfl
  · exact silently_tells_of_same rfl

theorem evalRelease_tells (h : r.phase = .release) : (evalRelease q x r).TellsPhase r := by
  unfold evalRelease
  split
  · exact silently_tells_of_ne nofun nofun
  split
  · constructor <;> simp [phaseAlert, phaseOverrun, h]
  · exact silently_tells_of_same rfl

theorem evalRecover_tells (r : ChannelRec) : (evalRecover q x r).TellsPhase r := by
  unfold evalRecover
  split
  · exact silently_tells_of_same rfl
  split
  · exact silently_tells_of_ne nofun nofun
  split
  · exact silently_tells_of_ne nofun nofun
  · exact silently_tells_of_same rfl

/-- A relock is no lock onset: it is told to nobody but as the new phase (R81, R87). -/
theorem evalReapply_tells (h : r.phase = .reapply) : (evalReapply q x r).TellsPhase r := by
  unfold evalReapply
  split
  · constructor <;> simp [silently, phaseAlert, phaseOverrun, h]
  split
  · exact withCycleEnd_tells rfl (by rw [h]; rfl)
  · exact silently_tells_of_same (reapplyStep_frame q r).1

theorem evalByPhase_tells (r : ChannelRec) : (evalByPhase q x r).TellsPhase r := by
  unfold evalByPhase
  split
  next h => exact silently_tells_of_follow rfl (by rw [h]; rfl)
  next h => exact evalFollow_tells q x h
  next h => exact evalCapped_tells q x h
  next h => exact evalHold_tells q x h
  next h => exact evalRelease_tells q x h
  next => exact evalRecover_tells q x r
  next h => exact evalReapply_tells q x h
  all_goals exact silently_tells_of_same rfl

theorem evalChannel_tells (full : Bool) (r : ChannelRec) : (evalChannel q full x r).TellsPhase r := by
  unfold evalChannel
  split
  · exact silently_tells_of_same rfl
  split
  · exact awaitFault_tells r
  split
  · split
    · exact silently_tells_of_same rfl
    · exact silently_tells_of_ne nofun nofun
  split
  · exact handBack_tells r
  split
  · exact evalByPhase_tells q x r
  · exact evalStanding_tells r

end

theorem State.evaluated_tells (s : State) (c : Channel) (u : RefUpdate) :
    (s.evaluated c u).TellsPhase (chanGet s.slip c) := by
  unfold State.evaluated
  split
  · split
    · exact silently_tells_of_same rfl
    · exact evalChannel_tells _ _ true _
    · exact evalChannel_tells _ _ false _
  · exact silently_tells_of_same rfl

/-- The hand-offs of an outcome, read off the record before and the record after. -/
theorem ChannelOutcome.TellsPhase.handoffs {r : ChannelRec} {o : ChannelOutcome} (h : o.TellsPhase r) (c : Channel) :
    outcomeHandoffs c r o =
      (if o.record.phase ≠ r.phase then [.phaseHandoff c o.record.phase o.record.cap, .lanePhaseCopy c o.record.phase]
        else if o.record.cap ≠ r.cap then [.capStepHandoff c o.record.cap] else [])
      ++ (if o.record.phase = .hold ∧ (r.phase = .follow ∨ r.phase = .capped)
          then [.alertHanded .lockOnset (some c) o.record.pLock]
        else if o.record.phase = .follow ∧ r.phase ∈ [Phase.hold, .release, .recover, .reapply]
          then [.alertHanded .cycleEnd (some c) 0] else [])
      ++ (if o.record.phase = .hold ∧ r.phase = .release ∧ r.releaseCount < o.record.releaseCount
          then [Instr.faultNotice (.channelFault .releaseOverrun c false)] else []) := by
  unfold outcomeHandoffs
  rw [h.alert, h.overrun]
  simp only [phaseAlert, phaseOverrun, isAntiLock_iff, phaseHandoffs, decide_eq_true_eq]
  by_cases honset : o.record.phase = .hold ∧ (r.phase = .follow ∨ r.phase = .capped)
  · rw [if_pos honset, if_pos honset]
  · rw [if_neg honset, if_neg honset]
    by_cases hend : o.record.phase = .follow ∧ r.phase ∈ [Phase.hold, .release, .recover, .reapply]
    · rw [if_pos hend, if_pos hend]
    · rw [if_neg hend, if_neg hend]

/-- An outcome that leaves the record as it was hands nothing on. -/
theorem ChannelOutcome.TellsPhase.handoffs_of_same {r : ChannelRec} {o : ChannelOutcome} (h : o.TellsPhase r)
    (hrecord : o.record = r) (c : Channel) : outcomeHandoffs c r o = [] := by
  rw [h.handoffs, hrecord]
  cases hp : r.phase <;> simp

/-! ## REFERENCE_UPDATE (R64) -/

/-- The state after a reference update: the channel records and the hand-offs change, and nothing else (R64). -/
def State.updated (s : State) (u : RefUpdate) : State :=
  { s with
    slip := ⟨(s.evaluated .ch1 u).record, (s.evaluated .ch2 u).record⟩
    handed := s.handed.erase (.referenceUpdate u)
      ++ (outcomeHandoffs .ch1 s.slip.ch1 (s.evaluated .ch1 u) ++ outcomeHandoffs .ch2 s.slip.ch2 (s.evaluated .ch2 u)) }

theorem exec_referenceUpdate {s : State} (h : s.unitsOn = true) (u : RefUpdate) :
    exec (.referenceUpdate u) s = .next (s.updated u) :=
  congrArg Host.Outcome.next (if_pos h)

theorem State.updated_slip (s : State) (u : RefUpdate) (c : Channel) :
    chanGet (s.updated u).slip c = (s.evaluated c u).record := by
  cases c <;> rfl

/-- What a channel's evaluation hands on is handed. -/
theorem State.mem_updated_handed {s : State} {u : RefUpdate} {c : Channel} {i : Instr}
    (h : i ∈ outcomeHandoffs c (chanGet s.slip c) (s.evaluated c u)) : i ∈ (s.updated u).handed := by
  refine List.mem_append_right _ ?_
  cases c
  · exact List.mem_append_left _ h
  · exact List.mem_append_right _ h

/-- What an update hands on in every mode and phase, channel 1 before channel 2 (R86, R87). -/
theorem State.updated_handoffs (s : State) (u : RefUpdate) :
    ∃ handOffs : Channel → List Instr,
      (s.updated u).handed = s.handed.erase (.referenceUpdate u) ++ (handOffs .ch1 ++ handOffs .ch2)
      ∧ ∀ (c : Channel) (r x : ChannelRec), r = chanGet s.slip c → x = chanGet (s.updated u).slip c →
          handOffs c = (if x.phase ≠ r.phase then [.phaseHandoff c x.phase x.cap, .lanePhaseCopy c x.phase]
              else if x.cap ≠ r.cap then [.capStepHandoff c x.cap] else [])
            ++ (if x.phase = .hold ∧ (r.phase = .follow ∨ r.phase = .capped)
                then [.alertHanded .lockOnset (some c) x.pLock]
              else if x.phase = .follow ∧ r.phase ∈ [Phase.hold, .release, .recover, .reapply]
                then [.alertHanded .cycleEnd (some c) 0] else [])
            ++ (if x.phase = .hold ∧ r.phase = .release ∧ r.releaseCount < x.releaseCount
                then [Instr.faultNotice (.channelFault .releaseOverrun c false)] else []) := by
  refine ⟨fun c => outcomeHandoffs c (chanGet s.slip c) (s.evaluated c u), rfl, ?_⟩
  rintro c r x rfl rfl
  rw [State.updated_slip]
  exact (s.evaluated_tells c u).handoffs c

/-- An update that changes neither channel hands nothing on. -/
theorem State.updated_handed_of_same {s : State} {u : RefUpdate} (h : (s.updated u).slip = s.slip) :
    (s.updated u).handed = s.handed.erase (.referenceUpdate u) := by
  have hnone : ∀ c, outcomeHandoffs c (chanGet s.slip c) (s.evaluated c u) = [] := fun c =>
    (s.evaluated_tells c u).handoffs_of_same (by rw [← State.updated_slip, h]) c
  have h1 := hnone .ch1
  have h2 := hnone .ch2
  simp only [chanGet] at h1 h2
  simp [State.updated, h1, h2]

/-! ## The inputs of a channel (R64, R66 to R69, R83) -/

/-- The channel is in use and works from the wheel `w`, whose input has failed or not (R66 to R68). -/
structure WorksFrom (a : Arrangement) (c : Channel) (x : Sides Sample) (w : Sample) (failed : Bool) : Prop where
  uses : usesChannel a c = true
  wheel : wheelOf a c x = w
  failed : wheelFailed a c x = failed

/-- In SPLIT a channel works from its own wheel (R67). -/
theorem worksFrom_split {a : Arrangement} (h : a = .split) (c : Channel) (x : Sides Sample) :
    WorksFrom a c x (sideGet x (channelSide c)) (decide ((sideGet x (channelSide c)).state = .failed)) := by
  subst h
  cases c <;> exact ⟨rfl, rfl, rfl⟩

/-- In JOINED channel 1 works from the slower wheel, LEFT when equal, and a failure of either input counts (R66, R68). -/
theorem worksFrom_joined {a : Arrangement} (h : a = .joined) (x : Sides Sample) :
    WorksFrom a .ch1 x (if x.right.speed < x.left.speed then x.right else x.left)
      (decide (x.left.state = .failed) || decide (x.right.state = .failed)) := by
  subst h
  exact ⟨rfl, rfl, rfl⟩

/-- The inputs of a channel that works from the wheel `w` (R64). -/
def State.inputFrom (s : State) (c : Channel) (u : RefUpdate) (w : Sample) (failed : Bool) : ChannelInput :=
  { inputFailed := failed, vw := w.speed, aw := w.accel, vref := u.vref
    pc := (chanGet s.pressure.chambers c).reading, pd := s.pressure.pd, braking := s.pressure.braking
    economy := s.pressure.economy, judged := s.yawJudged, yaw := s.yawCase c u.mask }

section
variable {s : State} {c : Channel} {u : RefUpdate} {w : Sample} {failed : Bool}
  (hw : WorksFrom s.arrangement c u.samples w failed)
include hw

theorem State.channelInput_eq : s.channelInput c u = s.inputFrom c u w failed := by
  obtain ⟨-, hwheel, hfailed⟩ := hw
  simp only [State.channelInput, State.inputFrom, hwheel, hfailed]

/-- ACTIVE evaluates in full (R65). -/
theorem State.evaluated_active (h : s.fault.mode = .active) :
    s.evaluated c u = evalChannel s.params true (s.inputFrom c u w failed) (chanGet s.slip c) := by
  simp only [State.evaluated, hw.uses, if_true, h, modeEvaluation, State.channelInput_eq hw]

/-- QUIET and HELD evaluate standing (R65). -/
theorem State.evaluated_standing (h : s.fault.mode ∈ [Mode.quiet, .held]) :
    s.evaluated c u = evalChannel s.params false (s.inputFrom c u w failed) (chanGet s.slip c) := by
  have hmode : modeEvaluation s.fault.mode = .standing := by
    simp only [List.mem_cons, List.not_mem_nil, or_false] at h
    rcases h with h | h <;> rw [h] <;> rfl
  simp only [State.evaluated, hw.uses, if_true, hmode, State.channelInput_eq hw]

end

/-- The other modes evaluate no channel (R65). -/
theorem State.evaluated_none {s : State} (h : s.fault.mode ∈ [Mode.starting, .service, .passive, .latched])
    (c : Channel) (u : RefUpdate) : s.evaluated c u = silently (chanGet s.slip c) := by
  have hmode : modeEvaluation s.fault.mode = .none := by
    simp only [List.mem_cons, List.not_mem_nil, or_false] at h
    rcases h with h | h | h | h <;> rw [h] <;> rfl
  simp only [State.evaluated, hmode, ite_self]

/-- JOINED never evaluates channel 2 (R65). -/
theorem State.evaluated_joined {s : State} (h : s.arrangement = .joined) (u : RefUpdate) :
    s.evaluated .ch2 u = silently s.slip.ch2 := by
  simp [State.evaluated, h, usesChannel, chanGet]

/-! ## The precedence of R70 -/

section
variable {q : Params} {full : Bool} {x : ChannelInput} {r : ChannelRec}

theorem evalChannel_withheld (h : r.phase = .passive ∨ r.phase = .test ∨ r.faultWait = true) :
    evalChannel q full x r = silently r := if_pos h

section
variable (hpassive : r.phase ≠ .passive) (htest : r.phase ≠ .test) (hwait : r.faultWait = false)
include hpassive htest hwait

theorem evalChannel_failed (hf : x.inputFailed = true) : evalChannel q full x r = silently (awaitFault r) := by
  simp [evalChannel, hpassive, htest, hwait, hf]

theorem evalChannel_unbraked (hf : x.inputFailed = false) (hb : x.braking = false) :
    evalChannel q full x r = if r.phase = .inactive then silently r else silently (endBraking r) := by
  simp [evalChannel, hpassive, htest, hwait, hf, hb]

theorem evalChannel_slow (hf : x.inputFailed = false) (hb : x.braking = true) (hv : x.vref < q.vMin) :
    evalChannel q full x r = handBack r := by
  simp [evalChannel, hpassive, htest, hwait, hf, hb, hv]

theorem evalChannel_standing (hf : x.inputFailed = false) (hb : x.braking = true) (hv : q.vMin ≤ x.vref) :
    evalChannel q false x r = evalStanding r := by
  simp [evalChannel, hpassive, htest, hwait, hf, hb, Nat.not_lt.2 hv]

end

/-- In full the phase decides; PASSIVE and TEST have no row of their own, so they need no case here (R65, R70). -/
theorem evalChannel_full (hwait : r.faultWait = false) (hf : x.inputFailed = false) (hb : x.braking = true)
    (hv : q.vMin ≤ x.vref) : evalChannel q true x r = evalByPhase q x r := by
  by_cases h : r.phase = .passive ∨ r.phase = .test
  · rw [evalChannel_withheld (h.imp_right .inl)]
    rcases h with h | h <;> simp only [evalByPhase, h]
  · obtain ⟨hpassive, htest⟩ := not_or.1 h
    simp [evalChannel, hpassive, htest, hwait, hf, hb, Nat.not_lt.2 hv]

/-! ## The rows of each phase (R73 to R85) -/

theorem evalByPhase_inactive (h : r.phase = .inactive) : evalByPhase q x r = silently (beginFollow r) := by
  simp only [evalByPhase, h]

theorem evalByPhase_follow (h : r.phase = .follow) : evalByPhase q x r = evalFollow q x r := by
  simp only [evalByPhase, h]

theorem evalByPhase_capped (h : r.phase = .capped) : evalByPhase q x r = evalCapped q x r := by
  simp only [evalByPhase, h]

theorem evalByPhase_hold (h : r.phase = .hold) : evalByPhase q x r = evalHold q x r := by
  simp only [evalByPhase, h]

theorem evalByPhase_release (h : r.phase = .release) : evalByPhase q x r = evalRelease q x r := by
  simp only [evalByPhase, h]

theorem evalByPhase_recover (h : r.phase = .recover) : evalByPhase q x r = evalRecover q x r := by
  simp only [evalByPhase, h]

theorem evalByPhase_reapply (h : r.phase = .reapply) : evalByPhase q x r = evalReapply q x r := by
  simp only [evalByPhase, h]

/-- R74's onset: v_ref at least v_entry and the wheel slowing at least as fast as A1. -/
theorem onsetSeen_iff (q : Params) (x : ChannelInput) :
    onsetSeen q x = true ↔ q.vEntry ≤ x.vref ∧ x.aw ≤ -(q.a1 : Int) := by
  simp [onsetSeen, locking]

theorem evalByPhase_onset (hp : r.phase = .follow ∨ r.phase = .capped) (h : onsetSeen q x = true) :
    evalByPhase q x r = lockOnset x r := by
  rcases hp with hp | hp
  · exact (evalByPhase_follow hp).trans (if_pos h)
  · exact (evalByPhase_capped hp).trans (if_pos h)

/-- Without an onset HOLD is not entered from FOLLOW or CAPPED (R74). -/
theorem evalByPhase_ne_hold (hp : r.phase = .follow ∨ r.phase = .capped) (h : onsetSeen q x = false) :
    (evalByPhase q x r).record.phase ≠ .hold := by
  rcases hp with hp | hp
  · rw [evalByPhase_follow hp, evalFollow, h]
    cases x.judged <;> cases x.yaw <;> cases r.yawSpent <;> simp [silently, enterCapped, hp]
  · rw [evalByPhase_capped hp, evalCapped, if_neg (by simp [h])]
    split_ifs <;> simp [silently, hp]

end

end Sys2Proof.Machine

namespace Sys2Proof.Machine

/-! ## The anti-lock cycle (R73 to R82) -/

/-- The alerts among a channel's hand-offs are its own (R87). -/
theorem alertHanded_mem_outcomeHandoffs {c d : Channel} {r : ChannelRec} {o : ChannelOutcome} {k : AlertKind} {v : Nat} :
    .alertHanded k (some c) v ∈ outcomeHandoffs d r o ↔ d = c ∧ o.alert = some (k, v) := by
  have hphase : .alertHanded k (some c) v ∉ (if o.record.phase ≠ r.phase then phaseHandoffs d o.record
      else if o.record.cap ≠ r.cap then [.capStepHandoff d o.record.cap] else []) := by
    split_ifs <;> simp [phaseHandoffs]
  have hoverrun : Instr.alertHanded k (some c) v ∉
      if o.overrun then [Instr.faultNotice (.channelFault .releaseOverrun d false)] else [] := by
    split <;> simp
  unfold outcomeHandoffs
  rw [List.mem_append, List.mem_append, or_iff_left hoverrun, or_iff_right hphase]
  cases o.alert with
  | none => simp
  | some a => simp [Prod.ext_iff, and_left_comm, eq_comm]

theorem overrun_mem_outcomeHandoffs {c : Channel} {r : ChannelRec} {o : ChannelOutcome} (h : o.overrun = true) :
    .faultNotice (.channelFault .releaseOverrun c false) ∈ outcomeHandoffs c r o := by
  simp [outcomeHandoffs, h]

/-- The channel evaluated in full: ACTIVE, braking, vref at least v_min, the wheel input not FAILED, no fault awaited. The
row `o` of its phase is its record after, and its hand-offs are handed (R65, R70). -/
theorem State.updated_row {s : State} {c : Channel} {u : RefUpdate} {w : Sample} {o : ChannelOutcome}
    (hw : WorksFrom s.arrangement c u.samples w false) (hmode : s.fault.mode = .active)
    (hbraking : s.pressure.braking = true) (hv : s.params.vMin ≤ u.vref) (hwait : (chanGet s.slip c).faultWait = false)
    (h : evalByPhase s.params (s.inputFrom c u w false) (chanGet s.slip c) = o) :
    chanGet (s.updated u).slip c = o.record
      ∧ ∀ i ∈ outcomeHandoffs c (chanGet s.slip c) o, i ∈ (s.updated u).handed := by
  have heval : s.evaluated c u = o :=
    (State.evaluated_active hw hmode).trans ((evalChannel_full hwait rfl hbraking hv).trans h)
  subst heval
  exact ⟨s.updated_slip u c, fun _ => State.mem_updated_handed⟩

section
variable {q : Params} {x : ChannelInput} {r : ChannelRec}

/-- Lock onset with all it hands on (R74, R86, R87). -/
theorem lockOnset_handoffs (x : ChannelInput) (c : Channel) (hp : r.phase = .follow ∨ r.phase = .capped) :
    outcomeHandoffs c r (lockOnset x r) =
      [.phaseHandoff c .hold r.cap, .lanePhaseCopy c .hold, .alertHanded .lockOnset (some c) x.pc] := by
  rcases hp with hp | hp <;> simp [outcomeHandoffs, lockOnset, phaseHandoffs, hp]

/-- Below v_entry, or with the wheel slowing less than A1, there is no onset (R74). -/
theorem onsetSeen_eq_false (h : x.vref < q.vEntry ∨ -(q.a1 : Int) < x.aw) : onsetSeen q x = false := by
  rw [Bool.eq_false_iff, Ne, onsetSeen_iff]
  omega

/-- Where the yaw condition is not judged a FOLLOW without an onset stands (R74, R83). -/
theorem evalFollow_unjudged (h : onsetSeen q x = false) (hj : x.judged = false) : evalFollow q x r = silently r := by
  simp [evalFollow, h, hj]

/-- RELEASE ends in RECOVER at A2, the strong mark set at A3 and kept otherwise (R77). -/
theorem evalRelease_recovers (h : (q.a2 : Int) ≤ x.aw) : evalRelease q x r =
    silently { r with phase := .recover, strong := r.strong || decide ((q.a3 : Int) ≤ x.aw) } := by
  rw [evalRelease, if_pos h]
  by_cases ha : (q.a3 : Int) ≤ x.aw <;> simp [ha]

/-- RELEASE counts up to T_rel_max (R78). -/
theorem evalRelease_counts (h : x.aw < (q.a2 : Int)) (hc : r.releaseCount + 1 < q.tRelMax) :
    evalRelease q x r = silently { r with releaseCount := r.releaseCount + 1 } := by
  rw [evalRelease, if_neg (Int.not_le.2 h), if_neg (Nat.not_le.2 hc)]

/-- The count run out holds the channel and raises RELEASE_OVERRUN (R78). -/
theorem evalRelease_overruns (h : x.aw < (q.a2 : Int)) (hc : q.tRelMax ≤ r.releaseCount + 1) :
    evalRelease q x r =
      { record := { r with phase := .hold, releaseCount := r.releaseCount + 1, faultWait := true }, alert := none
        overrun := true } := by
  rw [evalRelease, if_neg (Int.not_le.2 h), if_pos hc]

theorem evalRecover_strong (h : (q.a3 : Int) ≤ x.aw) : evalRecover q x r = silently { r with strong := true } := if_pos h

/-- A wheel that locks again is released again (R79). -/
theorem evalRecover_releases (h : x.aw < (q.a3 : Int)) (hlock : x.aw ≤ -(q.a1 : Int)) :
    evalRecover q x r = silently (enterRelease r) := by
  simp [evalRecover, locking, Int.not_le.2 h, hlock]

/-- RECOVER ends in REAPPLY with its first cap, at most Pd (R80). -/
theorem evalRecover_reapplies (h : x.aw < (q.a3 : Int)) (hlock : -(q.a1 : Int) < x.aw) (ha : x.aw < (q.a2 : Int))
    (hs : x.slip < ((slipThreshold q x.vref : Nat) : Int)) : evalRecover q x r =
      silently { r with phase := .reapply, stepCount := 0, cap := min (firstCap x.economy r.strong r.pLock) x.pd } := by
  simp [evalRecover, locking, Int.not_le.2 h, Int.not_le.2 hlock, ha, hs]

/-- A RECOVER that meets none of its rows stays (R79, R80). -/
theorem evalRecover_stays (h : x.aw < (q.a3 : Int)) (hlock : -(q.a1 : Int) < x.aw)
    (hs : (q.a2 : Int) ≤ x.aw ∨ ((slipThreshold q x.vref : Nat) : Int) ≤ x.slip) : evalRecover q x r = silently r := by
  have hnone : ¬(x.aw < (q.a2 : Int) ∧ x.slip < ((slipThreshold q x.vref : Nat) : Int)) := by omega
  rw [evalRecover, if_neg (Int.not_le.2 h), if_neg (by simp [locking, hlock]), if_neg hnone]

/-- A relock in REAPPLY (R81). -/
theorem evalReapply_relocks (h : x.aw ≤ -(q.a1 : Int)) :
    evalReapply q x r = silently { r with phase := .hold, pLock := x.pc, falseOnset := 0 } :=
  if_pos (decide_eq_true h)

/-- A step of the reapply by its two cases: counted, or due (R82). -/
theorem reapplyStep_eq {cap steps : Nat}
    (h : r.stepCount + 1 < q.stepPeriod ∧ cap = r.cap ∧ steps = r.stepCount + 1
      ∨ q.stepPeriod ≤ r.stepCount + 1 ∧ cap = r.cap + q.deltaP ∧ steps = 0) :
    reapplyStep q r = { r with cap := cap, stepCount := steps } := by
  rcases h with ⟨hc, rfl, rfl⟩ | ⟨hc, rfl, rfl⟩
  · exact if_neg (Nat.not_le.2 hc)
  · exact if_pos hc

/-- REAPPLY steps on while the cap stays below Pd (R82). -/
theorem evalReapply_steps {cap steps : Nat} (hlock : -(q.a1 : Int) < x.aw)
    (h : reapplyStep q r = { r with cap := cap, stepCount := steps }) (hpd : cap < x.pd) :
    evalReapply q x r = silently { r with cap := cap, stepCount := steps } := by
  rw [evalReapply, if_neg (by simp [locking, hlock]), h, if_neg (Nat.not_le.2 hpd)]

/-- REAPPLY ends in FOLLOW with CYCLE_END once the cap has reached Pd (R82). -/
theorem evalReapply_ends {cap steps : Nat} (hlock : -(q.a1 : Int) < x.aw)
    (h : reapplyStep q r = { r with cap := cap, stepCount := steps }) (hpd : x.pd ≤ cap) :
    evalReapply q x r = withCycleEnd { r with phase := .follow, cap := cap, stepCount := steps } := by
  rw [evalReapply, if_neg (by simp [locking, hlock]), h, if_pos hpd]

end

/-- Settles O37: the rows of one cycle, phase by phase, and the hand-offs of every update. -/
theorem referenceUpdateRunsLockCycle : Obligations.ReferenceUpdateRunsLockCycle := by
  refine ⟨?_, fun u s hon => ?_⟩
  · intro u ch w r pc lam slip s hon hmode hbraking hv hwheel hr hwait hpc hlam hslip
    subst hr hpc hlam hslip
    have hw : WorksFrom s.arrangement ch u.samples w false := by
      rcases hwheel with ⟨ha, rfl, hgood⟩ | ⟨ha, rfl, hleft, hright, rfl⟩
      · have hside := worksFrom_split ha ch u.samples
        cases ch <;> simpa [sideGet, channelSide, hgood] using hside
      · simpa [hleft, hright] using worksFrom_joined ha u.samples
    have hrow := fun o => State.updated_row (o := o) hw hmode hbraking hv hwait
    generalize chanGet s.slip ch = r at *
    refine ⟨_, exec_referenceUpdate hon u, rfl, fun hp => ?_, fun hp hentry hlock => ?_, fun hp hno => ⟨?_, ?_⟩,
      fun hp hs => ?_, fun hp ha => ?_, fun hp ha hc => ?_, fun hp ha hc => ?_, fun hp ha => ?_,
      fun hp ha hlock => ?_, fun hp ha hlock ha2 hs => ?_, fun hp ha hlock hs => ?_, fun hp hlock => ?_,
      fun cap steps hp hlock hstep => ⟨fun hpd => ?_, fun hpd => ?_⟩⟩
    · exact (hrow _ (evalByPhase_inactive hp)).1
    · obtain ⟨hrecord, hmem⟩ := hrow _ (evalByPhase_onset hp ((onsetSeen_iff _ _).2 ⟨hentry, hlock⟩))
      rw [lockOnset_handoffs _ _ hp] at hmem
      exact ⟨hrecord, hmem _ (by simp [State.inputFrom]), hmem _ (by simp), hmem _ (by simp)⟩
    · rw [(hrow _ rfl).1]
      exact evalByPhase_ne_hold hp (onsetSeen_eq_false hno)
    · intro hfollow hunjudged
      have hjudged : s.yawJudged = false := by
        rcases hunjudged with h | h <;> simp [State.yawJudged, h]
      exact (hrow _ ((evalByPhase_follow hfollow).trans (evalFollow_unjudged (onsetSeen_eq_false hno) hjudged))).1
    · exact (hrow _ ((evalByPhase_hold hp).trans (if_pos hs))).1
    · exact (hrow _ ((evalByPhase_release hp).trans (evalRelease_recovers ha))).1
    · exact (hrow _ ((evalByPhase_release hp).trans (evalRelease_counts ha hc))).1
    · obtain ⟨hrecord, hmem⟩ := hrow _ ((evalByPhase_release hp).trans (evalRelease_overruns ha hc))
      exact ⟨hrecord, hmem _ (overrun_mem_outcomeHandoffs rfl)⟩
    · exact (hrow _ ((evalByPhase_recover hp).trans (evalRecover_strong ha))).1
    · exact (hrow _ ((evalByPhase_recover hp).trans (evalRecover_releases ha hlock))).1
    · exact (hrow _ ((evalByPhase_recover hp).trans (evalRecover_reapplies ha hlock ha2 hs))).1
    · exact (hrow _ ((evalByPhase_recover hp).trans (evalRecover_stays ha hlock hs))).1
    · exact (hrow _ ((evalByPhase_reapply hp).trans (evalReapply_relocks hlock))).1
    · exact (hrow _ ((evalByPhase_reapply hp).trans (evalReapply_steps hlock (reapplyStep_eq hstep) hpd))).1
    · obtain ⟨hrecord, hmem⟩ := hrow _ ((evalByPhase_reapply hp).trans (evalReapply_ends hlock (reapplyStep_eq hstep) hpd))
      exact ⟨hrecord, hmem _ (alertHanded_mem_outcomeHandoffs.2 ⟨rfl, rfl⟩)⟩
  · obtain ⟨handOffs, hhanded, hform⟩ := s.updated_handoffs u
    exact ⟨_, handOffs, exec_referenceUpdate hon u, hhanded, hform⟩

end Sys2Proof.Machine

namespace Sys2Proof.Machine

/-! ## What withholds or ends a cycle (R65, R66, R70 to R76) -/

section
variable {q : Params} {x : ChannelInput} {r : ChannelRec}

theorem falseOnsetSeen_iff (q : Params) (x : ChannelInput) : falseOnsetSeen q x = true ↔
    -((q.a1 / 2 : Nat) : Int) < x.aw ∧ x.slip < ((slipThreshold q x.vref / 2 : Nat) : Int) := by
  simp [falseOnsetSeen]

/-- A false onset is never released: the release threshold is above half the slip threshold (R69, R75, R76). -/
theorem evalHold_falseOnset (ha : -((q.a1 / 2 : Nat) : Int) < x.aw)
    (hs : x.slip < ((slipThreshold q x.vref / 2 : Nat) : Int)) : evalHold q x r =
      if 3 ≤ r.falseOnset + 1 then withCycleEnd { r with phase := .follow, falseOnset := 0 }
      else silently { r with falseOnset := r.falseOnset + 1 } := by
  have hbelow : ¬((releaseThreshold q x.vref x.economy : Nat) : Int) ≤ x.slip := by
    unfold releaseThreshold
    omega
  rw [evalHold, if_neg hbelow, if_pos ((falseOnsetSeen_iff q x).2 ⟨ha, hs⟩)]

theorem evalHold_counts (ha : -((q.a1 / 2 : Nat) : Int) < x.aw)
    (hs : x.slip < ((slipThreshold q x.vref / 2 : Nat) : Int)) (hc : r.falseOnset < 2) :
    evalHold q x r = silently { r with falseOnset := r.falseOnset + 1 } :=
  (evalHold_falseOnset ha hs).trans (if_neg (by omega))

theorem evalHold_ends (ha : -((q.a1 / 2 : Nat) : Int) < x.aw)
    (hs : x.slip < ((slipThreshold q x.vref / 2 : Nat) : Int)) (hc : 2 ≤ r.falseOnset) :
    evalHold q x r = withCycleEnd { r with phase := .follow, falseOnset := 0 } :=
  (evalHold_falseOnset ha hs).trans (if_pos (by omega))

/-- A window that meets neither condition returns the count to 0 (R76). -/
theorem evalHold_clears (hs : x.slip < ((releaseThreshold q x.vref x.economy : Nat) : Int))
    (hno : ((slipThreshold q x.vref / 2 : Nat) : Int) ≤ x.slip ∨ x.aw ≤ -((q.a1 / 2 : Nat) : Int)) :
    evalHold q x r = silently { r with falseOnset := 0 } := by
  have hseen : ¬falseOnsetSeen q x = true := by
    rw [falseOnsetSeen_iff]
    omega
  rw [evalHold, if_neg (Int.not_le.2 hs), if_neg hseen]

/-- FOLLOW below v_min has its counts at 0 and ends a cycle from an anti-lock phase alone (R72, R87). -/
theorem handBack_eq (h : r.phase ≠ .follow) : handBack r =
    { record := beginFollow r, alert := if isAntiLock r.phase then some (.cycleEnd, 0) else none, overrun := false } := by
  unfold handBack
  dsimp only
  rw [if_neg h]
  split <;> rfl

end

/-- A mode that evaluates channels does so in full or standing, under one precedence (R65, R70). -/
theorem State.evaluated_evaluating {s : State} {c : Channel} {u : RefUpdate} {w : Sample} {failed : Bool}
    (hw : WorksFrom s.arrangement c u.samples w failed) (h : s.fault.mode ∈ [Mode.active, .quiet, .held]) :
    ∃ full, s.evaluated c u = evalChannel s.params full (s.inputFrom c u w failed) (chanGet s.slip c) := by
  rcases List.mem_cons.1 h with h | h
  · exact ⟨true, State.evaluated_active hw h⟩
  · exact ⟨false, State.evaluated_standing hw h⟩

/-- PASSIVE, TEST and the fault-wait mark withhold a channel in every mode (R65, R66, R70). -/
theorem State.evaluated_withheld {s : State} {c : Channel}
    (h : (chanGet s.slip c).phase = .passive ∨ (chanGet s.slip c).phase = .test ∨ (chanGet s.slip c).faultWait = true)
    (u : RefUpdate) : s.evaluated c u = silently (chanGet s.slip c) := by
  unfold State.evaluated
  split
  · split
    · rfl
    all_goals exact evalChannel_withheld h
  · rfl

/-- A channel's CYCLE_END stands in the hand-offs of an update exactly when its outcome sends it, or it stood there
before. -/
theorem State.cycleEnd_mem_updated (s : State) (u : RefUpdate) (c : Channel) :
    .alertHanded .cycleEnd (some c) 0 ∈ (s.updated u).handed ↔
      (s.evaluated c u).alert = some (.cycleEnd, 0) ∨ .alertHanded .cycleEnd (some c) 0 ∈ s.handed := by
  have herase : .alertHanded .cycleEnd (some c) 0 ∈ s.handed.erase (.referenceUpdate u) ↔
      .alertHanded .cycleEnd (some c) 0 ∈ s.handed := List.mem_erase_of_ne nofun
  simp only [State.updated, List.mem_append, alertHanded_mem_outcomeHandoffs, herase]
  cases c <;> simp [or_comm]

/-- Settles O38: the precedence of R70 case by case, and the modes that evaluate in part or not at all. -/
theorem referenceUpdateEndsCycle : Obligations.ReferenceUpdateEndsCycle := by
  intro u ch w failed r lam s hon hwheel hr hlam
  subst hr hlam
  have hw : WorksFrom s.arrangement ch u.samples w failed := by
    rcases hwheel with ⟨ha, rfl, rfl⟩ | ⟨ha, rfl, rfl, rfl⟩
    · have hside := worksFrom_split ha ch u.samples
      cases ch <;> exact hside
    · exact worksFrom_joined ha u.samples
  have hrecord : ∀ {o}, s.evaluated ch u = o → chanGet (s.updated u).slip ch = o.record := fun h =>
    h ▸ s.updated_slip u ch
  refine ⟨_, exec_referenceUpdate hon u, rfl, fun ha => congrArg ChannelOutcome.record (State.evaluated_joined ha u),
    State.updated_handed_of_same, fun hmode => hrecord (State.evaluated_none hmode ch u),
    fun h => hrecord (State.evaluated_withheld h u), fun hmode hpassive htest hwait => ?_, ?_, ?_, ?_⟩
  · obtain ⟨full, heval⟩ := State.evaluated_evaluating hw hmode
    refine ⟨fun hf => ?_, fun hf hb hp => ?_, fun hf hb hp => ?_, fun hf hb hv hp => ?_, fun hf hb hv hp => ?_⟩
    · exact hrecord (heval.trans (evalChannel_failed hpassive htest hwait hf))
    · exact hrecord (heval.trans ((evalChannel_unbraked hpassive htest hwait hf hb).trans (if_neg hp)))
    · exact hrecord (heval.trans ((evalChannel_unbraked hpassive htest hwait hf hb).trans (if_pos hp)))
    · exact hrecord (heval.trans ((evalChannel_slow hpassive htest hwait hf hb hv).trans (if_pos hp)))
    · have hback := heval.trans ((evalChannel_slow hpassive htest hwait hf hb hv).trans (handBack_eq hp))
      refine ⟨hrecord hback, ?_⟩
      rw [State.cycleEnd_mem_updated, hback, ← isAntiLock_iff]
      simp
  · intro hmode hb hv hf hp hwait hslip hacc
    subst hf
    have hrow := fun o => State.updated_row (o := o) hw hmode hb hv hwait
    refine ⟨fun hc => (hrow _ ((evalByPhase_hold hp).trans (evalHold_counts hacc hslip hc))).1, fun hc => ?_⟩
    obtain ⟨hrec, hmem⟩ := hrow _ ((evalByPhase_hold hp).trans (evalHold_ends hacc hslip hc))
    exact ⟨hrec, hmem _ (alertHanded_mem_outcomeHandoffs.2 ⟨rfl, rfl⟩)⟩
  · intro hmode hb hv hf hp hwait hslip hno
    subst hf
    exact (State.updated_row hw hmode hb hv hwait ((evalByPhase_hold hp).trans (evalHold_clears hslip hno))).1
  · intro hmode hb hv hf hpassive htest hwait
    rw [hrecord ((State.evaluated_standing hw hmode).trans (evalChannel_standing hpassive htest hwait hf hb hv)),
      evalStanding]
    split <;> rfl

end Sys2Proof.Machine

namespace Sys2Proof.Machine

/-! ## The yaw condition (R83 to R85) -/

theorem State.freshRelease_iff (s : State) (i : Side) : s.freshRelease i = true ↔
    ∃ p : Position, p ≠ s.position ∧ (quadGet s.view.peers p).state = .fresh
      ∧ (sideGet (quadGet s.view.peers p).lanes i).code = .release := by
  simp [State.freshRelease, mem_positions, and_assoc]

theorem State.freshMasked_eq_false_iff (s : State) (i : Side) (mask : BitVec 8) : s.freshMasked i mask = false ↔
    ∀ p : Position, p ≠ s.position → (quadGet s.view.peers p).state = .fresh → inMask mask (laneNumber p i) = false := by
  simp [State.freshMasked, mem_positions]

/-- Where it is judged the yaw condition comes from the other channel, or else from the peers, or fails (R83). -/
theorem State.yawCase_eq {s : State} (h : s.yawJudged = true) (y : Channel) (mask : BitVec 8) : s.yawCase y mask =
    if isAntiLock (chanGet s.slip (otherChannel y)).phase then .ownSide (chanGet s.slip (otherChannel y)).pLock
    else if s.freshRelease (channelSide (otherChannel y)) && !s.freshMasked (channelSide y) mask then .peers
    else .none :=
  if_neg (by simp [h])

section
variable {q : Params} {x : ChannelInput} {r : ChannelRec} (hno : onsetSeen q x = false)
include hno

/-- FOLLOW under the yaw condition enters CAPPED, unless the yaw-spent mark is set (R84). -/
theorem evalFollow_yaw {lock : Nat} (hj : x.judged = true)
    (hyaw : x.yaw = .ownSide lock ∨ x.yaw = .peers ∧ lock = x.pc) : evalFollow q x r =
      if r.yawSpent then silently r else silently (enterCapped x (lock + q.yawMargin) r) := by
  rcases hyaw with hyaw | ⟨hyaw, rfl⟩ <;> simp [evalFollow, hno, hj, hyaw]

/-- FOLLOW clears the mark once the yaw condition fails (R84). -/
theorem evalFollow_noYaw (hj : x.judged = true) (hyaw : x.yaw = .none) :
    evalFollow q x r = silently { r with yawSpent := false } := by
  simp [evalFollow, hno, hj, hyaw]

/-- CAPPED climbs by the yaw step (R85). -/
theorem evalCapped_climbs (hyaw : x.yaw ≠ .none) (hpd : r.cap + q.yawStep < x.pd) :
    evalCapped q x r = silently { r with cap := r.cap + q.yawStep } := by
  simp [evalCapped, hno, hyaw, Nat.not_le.2 hpd]

/-- CAPPED ends with the mark set once the cap has reached Pd (R85). -/
theorem evalCapped_reaches (hyaw : x.yaw ≠ .none) (hpd : x.pd ≤ r.cap + q.yawStep) :
    evalCapped q x r = silently { r with phase := .follow, cap := r.cap + q.yawStep, yawSpent := true } := by
  simp [evalCapped, hno, hyaw, hpd]

/-- CAPPED ends with the mark clear when the yaw condition fails (R85). -/
theorem evalCapped_noYaw (hyaw : x.yaw = .none) :
    evalCapped q x r = silently { r with phase := .follow, yawSpent := false } := by
  simp [evalCapped, hno, hyaw]

end

/-- A cap that moves within its phase is handed alone (R86). -/
theorem capStep_mem_outcomeHandoffs {c : Channel} {r x : ChannelRec} (hphase : x.phase = r.phase) (hcap : x.cap ≠ r.cap) :
    .capStepHandoff c x.cap ∈ outcomeHandoffs c r (silently x) := by
  simp [outcomeHandoffs, silently, hphase, hcap]

/-- Settles O39: the yaw condition read off the other channel and the peers, and the rows of FOLLOW and CAPPED. -/
theorem yawConditionCapsChannel : Obligations.YawConditionCapsChannel := by
  intro u ch other own across w r x locks peers lock s hon hmode ha hposition hb hv hside hwheel hgood hacc hr hwait hx
    hlocks hpeers hlock
  subst hr hx hwheel
  have hpos : s.position = 0 := by simp [State.position, hposition]
  have hjudged : s.yawJudged = true := by simp [State.yawJudged, hpos, ha]
  obtain ⟨rfl, rfl, rfl⟩ : other = otherChannel ch ∧ own = channelSide ch ∧ across = channelSide (otherChannel ch) := by
    rcases hside with ⟨rfl, rfl, rfl, rfl⟩ | ⟨rfl, rfl, rfl, rfl⟩ <;> exact ⟨rfl, rfl, rfl⟩
  have hw : WorksFrom s.arrangement ch u.samples (sideGet u.samples (channelSide ch)) false := by
    simpa [hgood] using worksFrom_split ha ch u.samples
  have hno : onsetSeen s.params (s.inputFrom ch u (sideGet u.samples (channelSide ch)) false) = false :=
    onsetSeen_eq_false (.inr hacc)
  have hlockEq : isAntiLock (chanGet s.slip (otherChannel ch)).phase = locks := by
    rw [Bool.eq_iff_iff, isAntiLock_iff, hlocks]
  have hpeersEq : (s.freshRelease (channelSide (otherChannel ch)) && !s.freshMasked (channelSide ch) u.mask) = peers := by
    rw [Bool.eq_iff_iff, hpeers, Bool.and_eq_true, Bool.not_eq_true', State.freshRelease_iff,
      State.freshMasked_eq_false_iff, hpos]
    cases ch <;> rfl
  have hcase := State.yawCase_eq hjudged ch u.mask
  rw [hlockEq, hpeersEq] at hcase
  have hrow := fun o => State.updated_row (o := o) hw hmode hb hv hwait
  refine ⟨_, exec_referenceUpdate hon u, fun hyaw => ?_, fun hl hp => ?_⟩
  · have hyawCase : s.yawCase ch u.mask = .ownSide lock ∨ s.yawCase ch u.mask = .peers
        ∧ lock = (chanGet s.pressure.chambers ch).reading := by
      rw [hcase, hlock]
      cases locks
      · simp [hyaw.resolve_left nofun]
      · exact .inl rfl
    have hne : s.yawCase ch u.mask ≠ .none := by
      rcases hyawCase with h | ⟨h, -⟩ <;> simp [h]
    refine ⟨fun hphase hspent => ?_, fun hphase hspent => ?_, fun hphase hpd => ?_, fun hphase hpd => ?_⟩
    · exact (hrow _ ((evalByPhase_follow hphase).trans
        ((evalFollow_yaw hno hjudged hyawCase).trans (if_neg (by simp [hspent]))))).1
    · exact (hrow _ ((evalByPhase_follow hphase).trans
        ((evalFollow_yaw hno hjudged hyawCase).trans (if_pos hspent)))).1
    · obtain ⟨hrecord, hmem⟩ := hrow _ ((evalByPhase_capped hphase).trans (evalCapped_climbs hno hne hpd))
      exact ⟨hrecord, fun hstep => hmem _ (capStep_mem_outcomeHandoffs rfl (by simpa using hstep))⟩
    · exact (hrow _ ((evalByPhase_capped hphase).trans (evalCapped_reaches hno hne hpd))).1
  · have hnone : s.yawCase ch u.mask = .none := by
      rw [hcase, hl, hp]
      rfl
    exact ⟨fun hphase => (hrow _ ((evalByPhase_follow hphase).trans (evalFollow_noYaw hno hjudged hnone))).1,
      fun hphase => (hrow _ ((evalByPhase_capped hphase).trans (evalCapped_noYaw hno hnone))).1⟩

end Sys2Proof.Machine

namespace Sys2Proof.Machine

/-! ## What drives the solenoids (R93, R107) -/

/-- Channel 2 is in use in SPLIT only (R150). -/
theorem usesChannel_iff (a : Arrangement) (c : Channel) : usesChannel a c = true ↔ a = .split ∨ c = .ch1 := by
  cases a <;> cases c <;> simp [usesChannel]

/-- Channel 2 is driven in SPLIT only (R93). -/
theorem State.live_iff (s : State) (c : Channel) : s.live c = true ↔ s.arrangement = .split ∨ c = .ch1 :=
  usesChannel_iff _ _

theorem inletOn_iff (live : Bool) (p : Pattern) (c : DriverChan) :
    inletOn live p c = true ↔ p ≠ .pass ∧ c.inlet.shortLock = false ∧ live = true := by
  simp [inletOn, and_assoc, and_comm, and_left_comm]

theorem outletOn_iff (live : Bool) (p : Pattern) (c : DriverChan) : outletOn live p c = true ↔
    p = .exhaust ∧ c.inlet.shortLock = false ∧ c.outlet.shortLock = false ∧ live = true := by
  cases p <;> simp [outletOn, inletOn, and_assoc, and_comm, and_left_comm]

/-- Each solenoid is driven as the pattern calls for (R93). -/
theorem applyPattern_solenoid (live : Bool) (t : Time) (p : Pattern) (c : DriverChan) (v : Valve) :
    ∃ on, solenoid (applyPattern live t p c) v = driveSolenoid t on (solenoid c v) := by
  cases v <;> exact ⟨_, rfl⟩

/-- A drive that stands leaves the solenoid as it is. -/
theorem driveSolenoid_of_same {t : Time} {on : Bool} {x : Solenoid} (h : (driveSolenoid t on x).on = x.on) :
    driveSolenoid t on x = x :=
  if_pos ((driveSolenoid_spec t on x).1.symm.trans h).symm

/-- A drive that changes starts the check timer anew, 2000 µs after a switch-on and 10,000 µs after a switch-off (R107). -/
theorem driveSolenoid_of_switch {t : Time} {on : Bool} {x : Solenoid} (h : (driveSolenoid t on x).on ≠ x.on)
    (hshort : x.shortLock = false) : driveSolenoid t on x =
      { x with on := !x.on, timer := some ⟨t, if (driveSolenoid t on x).on then 2000 else 10000⟩ } := by
  have hon : (driveSolenoid t on x).on = on := (driveSolenoid_spec t on x).1
  rw [hon] at h ⊢
  rw [driveSolenoid, if_neg h.symm, hshort, Bool.eq_not.2 h]
  rfl

/-! ## Which pattern applies (R94 to R97, R105) -/

theorem phaseDecides_iff (m : Mode) : phaseDecides m = true ↔ m ∈ [Mode.active, .quiet, .service] := by
  cases m <;> simp [phaseDecides]

/-- In ACTIVE, QUIET and SERVICE the phase names the pattern (R94). -/
theorem namedPattern_of_phase {m : Mode} {p : Phase} {test pat : Pattern} (hm : m ∈ [Mode.active, .quiet, .service])
    (h : (p, pat) ∈ [(Phase.inactive, Pattern.pass), (.follow, .pass), (.passive, .pass), (.hold, .hold),
      (.recover, .hold), (.release, .exhaust), (.test, test)]) : namedPattern m p test = some pat := by
  simp only [List.mem_cons, Prod.mk.injEq, List.not_mem_nil, or_false] at h
  rcases h with ⟨rfl, rfl⟩ | ⟨rfl, rfl⟩ | ⟨rfl, rfl⟩ | ⟨rfl, rfl⟩ | ⟨rfl, rfl⟩ | ⟨rfl, rfl⟩ | ⟨rfl, rfl⟩ <;>
    exact if_pos ((phaseDecides_iff m).2 hm)

/-- In the other modes the pattern is PASS (R94). -/
theorem namedPattern_of_mode {m : Mode} (hm : m ∈ [Mode.starting, .held, .passive, .latched]) (p : Phase)
    (test : Pattern) : namedPattern m p test = some .pass := by
  refine if_neg ?_
  rw [phaseDecides_iff]
  cases m <;> simp at hm ⊢

/-- CAPPED and REAPPLY name no pattern where the phase decides (R94). -/
theorem namedPattern_tracked {m : Mode} {p : Phase} (hm : m ∈ [Mode.active, .quiet, .service])
    (hp : p = .capped ∨ p = .reapply) (test : Pattern) : namedPattern m p test = none := by
  rcases hp with rfl | rfl <;> simp [namedPattern, (phaseDecides_iff m).2 hm]

/-- What a settling of the pattern leaves as it is. -/
theorem settlePattern_frame (live : Bool) (m : Mode) (t : Time) (c : DriverChan) :
    (settlePattern live m t c).phase = c.phase ∧ (settlePattern live m t c).cap = c.cap
      ∧ (settlePattern live m t c).testPattern = c.testPattern ∧ (settlePattern live m t c).woundUp = c.woundUp := by
  unfold settlePattern
  split
  · exact ⟨rfl, rfl, rfl, rfl⟩
  · split <;> exact ⟨rfl, rfl, rfl, rfl⟩

theorem settlePattern_named {live : Bool} {m : Mode} {t : Time} {c : DriverChan} {pat : Pattern}
    (h : namedPattern m c.phase c.testPattern = some pat) :
    settlePattern live m t c = applyPattern live t pat (endEpisode c) := by
  simp only [settlePattern, h]

/-- A tracked phase begins an episode where none is in progress (R95, R97). -/
theorem settlePattern_begins {live : Bool} {m : Mode} {t : Time} {c : DriverChan}
    (h : namedPattern m c.phase c.testPattern = none) (ht : c.tracking = false) :
    settlePattern live m t c = beginEpisode c := by
  simp [settlePattern, h, ht]

/-- A channel as it leaves its phase: a tracked one ends its episode (R95, R97). -/
def leavePhase (c : DriverChan) : DriverChan := if isTracked c.phase then endEpisode c else c

theorem leavePhase_frame (c : DriverChan) : (leavePhase c).phase = c.phase ∧ (leavePhase c).testPattern = c.testPattern
    ∧ (leavePhase c).woundUp = c.woundUp ∧ (leavePhase c).integrator = c.integrator ∧ (leavePhase c).windUp = c.windUp
    ∧ (leavePhase c).inlet = c.inlet ∧ (leavePhase c).outlet = c.outlet := by
  unfold leavePhase
  split <;> exact ⟨rfl, rfl, rfl, rfl, rfl, rfl, rfl⟩

theorem takePhase_of_same {live : Bool} {m : Mode} {t : Time} {p : Phase} {c : DriverChan} (h : p = c.phase) (cap : Nat) :
    takePhase live m t p cap c = { c with cap := cap } := if_pos h

theorem takePhase_of_ne {live : Bool} {m : Mode} {t : Time} {p : Phase} {c : DriverChan} (h : p ≠ c.phase) (cap : Nat) :
    takePhase live m t p cap c = settlePattern live m t (handedPhase p cap (leavePhase c)) := if_neg h

/-- The phase and the cap handed are the channel's afterwards (R95). -/
theorem takePhase_phase (live : Bool) (m : Mode) (t : Time) (p : Phase) (cap : Nat) (c : DriverChan) :
    (takePhase live m t p cap c).phase = p ∧ (takePhase live m t p cap c).cap = cap := by
  by_cases h : p = c.phase
  · rw [takePhase_of_same h]
    exact ⟨h.symm, rfl⟩
  · rw [takePhase_of_ne h]
    obtain ⟨hphase, hcap, -, -⟩ := settlePattern_frame live m t (handedPhase p cap (leavePhase c))
    exact ⟨hphase, hcap⟩

section
variable {live : Bool} {m : Mode} {t : Time} {p : Phase} {cap : Nat} {d : DriverChan} (h : p ≠ d.phase)
include h

/-- The test pattern and the wound-up mark at a change of phase (R97, R105). -/
theorem takePhase_marks : (takePhase live m t p cap d).testPattern = (if d.phase = .test then .pass else d.testPattern)
    ∧ (takePhase live m t p cap d).woundUp
      = (if p = .inactive ∨ (p = .test ∧ d.phase = .inactive) then false else d.woundUp) := by
  obtain ⟨-, -, htest, hwound⟩ := settlePattern_frame live m t (handedPhase p cap (leavePhase d))
  obtain ⟨hphase, htest', hwound', -⟩ := leavePhase_frame d
  rw [takePhase_of_ne h, htest, hwound, handedPhase, hphase, htest', hwound']
  refine ⟨?_, rfl⟩
  by_cases hd : d.phase = .test
  · simp [hd, hd ▸ h]
  · simp [hd]

/-- A change to a phase that names a pattern ends tracking and drives the solenoids by it (R93 to R95). -/
theorem takePhase_named {pat : Pattern}
    (hpat : namedPattern m p (if d.phase = .test then .pass else d.testPattern) = some pat) :
    takePhase live m t p cap d = applyPattern live t pat (endEpisode (handedPhase p cap (leavePhase d))) := by
  obtain ⟨hmark, -⟩ := takePhase_marks (live := live) (m := m) (t := t) (cap := cap) h
  obtain ⟨hphase, -, htest, -⟩ := settlePattern_frame live m t (handedPhase p cap (leavePhase d))
  rw [takePhase_of_ne h, htest] at hmark
  rw [takePhase_of_ne h]
  exact settlePattern_named (hmark ▸ hpat)

/-- A change to a tracked phase begins an episode with the pattern that stood (R95, R97). -/
theorem takePhase_tracked (hm : m ∈ [Mode.active, .quiet, .service]) (hp : p = .capped ∨ p = .reapply)
    (ht : d.phase = .capped ∨ d.phase = .reapply ∨ d.tracking = false) : takePhase live m t p cap d =
      { d with phase := p, cap := cap, integrator := 0, windUp := false, dwellStart := none, errorRun := none
               warning := false, spent := false, tracking := true
               testPattern := if d.phase = .test then .pass else d.testPattern } := by
  have htracking : (leavePhase d).tracking = false := by
    unfold leavePhase
    rcases ht with ht | ht | ht
    · simp [ht, isTracked, endEpisode]
    · simp [ht, isTracked, endEpisode]
    · split
      · rfl
      · exact ht
  rw [takePhase_of_ne h,
    settlePattern_begins (c := handedPhase p cap (leavePhase d)) (namedPattern_tracked hm hp _) htracking]
  unfold leavePhase
  rcases hp with rfl | rfl <;> split <;> simp [beginEpisode, handedPhase, endEpisode]

end

/-- Settles O40: the phase handed by the pattern it names or the episode it begins, and the cap step. -/
theorem phaseHandoffDrivesValves : Obligations.PhaseHandoffDrivesValves := by
  intro ch p cap d s hbegun hd
  subst hd
  refine ⟨fun hturn => ⟨takePhase (s.live ch) s.driver.mode s.now p cap (chanGet s.driver.chans ch), ?_, ?_⟩,
    fun hturn => congrArg Host.Outcome.next (State.takeInTurn_of_inTurn hturn _)⟩
  · exact congrArg Host.Outcome.next ((State.takeInTurn_of_inTurn hturn _).trans (if_pos hbegun))
  generalize chanGet s.driver.chans ch = d
  obtain ⟨hphase, hcap⟩ := takePhase_phase (s.live ch) s.driver.mode s.now p cap d
  refine ⟨hphase, hcap, fun h => takePhase_of_same h cap, fun h => takePhase_marks h, fun pat h hpat => ?_,
    fun h hm hp ht => takePhase_tracked h hm hp ht⟩
  have hnamed : namedPattern s.driver.mode p (if d.phase = .test then .pass else d.testPattern) = some pat := by
    rcases hpat with ⟨hm, hpat⟩ | ⟨hm, rfl⟩
    · refine namedPattern_of_phase hm ?_
      by_cases hd : d.phase = .test
      · simpa [hd ▸ h] using hpat
      · simpa [hd] using hpat
    · exact namedPattern_of_mode hm p _
  obtain ⟨-, -, -, hintegrator, hwind, hinlet, houtlet⟩ := leavePhase_frame d
  obtain ⟨f, hf⟩ : ∃ f, f = endEpisode (handedPhase p cap (leavePhase d)) := ⟨_, rfl⟩
  have hsolenoid : ∀ v, solenoid f v = solenoid d v := by
    rw [hf]
    exact fun v => by cases v; exacts [hinlet, houtlet]
  have hin : f.inlet = d.inlet := hsolenoid .inlet
  have hout : f.outlet = d.outlet := hsolenoid .outlet
  rw [takePhase_named h hnamed, ← hf]
  refine ⟨rfl, by rw [hf]; rfl, by rw [hf]; rfl, by rw [hf]; rfl, by rw [hf]; exact hintegrator,
    by rw [hf]; exact hwind, ?_, ?_, fun v => ?_, fun v => ?_⟩
  · rw [← State.live_iff, ← hin, ← inletOn_iff]
    exact iff_of_eq (congrArg (· = true) (driveSolenoid_spec _ _ _).1)
  · rw [← State.live_iff, ← hin, ← hout, ← outletOn_iff]
    exact iff_of_eq (congrArg (· = true) (driveSolenoid_spec _ _ _).1)
  all_goals
    obtain ⟨on, hon⟩ := applyPattern_solenoid (s.live ch) s.now pat f v
    rw [hon, hsolenoid]
  · exact driveSolenoid_of_same
  · exact driveSolenoid_of_switch

end Sys2Proof.Machine

namespace Sys2Proof.Machine

/-! ## VALVE_TEST (R189, R194, R198) -/

theorem eq_otherChannel {c d : Channel} (h : d ≠ c) : d = otherChannel c := by
  cases c <;> cases d <;> simp [otherChannel] at h ⊢

theorem restingPhase_iff (p : Phase) : restingPhase p = true ↔ p = .inactive ∨ p = .passive := by
  simp [restingPhase]

theorem State.channelsRest_iff (s : State) (c : Channel) : s.channelsRest = true ↔
    restingPhase (chanGet s.slip c).phase = true ∧ restingPhase (chanGet s.slip (otherChannel c)).phase = true := by
  cases c <;> simp [State.channelsRest, chanGet, otherChannel, and_comm]

/-- The argument byte 1 or 2 names its channel (R189). -/
theorem argChannel_eq (b : Byte) :
    argChannel b = if b.toNat = 1 then some .ch1 else if b.toNat = 2 then some .ch2 else none := by
  simp [argChannel, BitVec.toNat_eq]

/-- The request names a channel in use (R189). -/
theorem State.testChannel_eq {s : State} {c : Channel} {arg : Byte} (harg : argChannel arg = some c)
    (huses : s.arrangement = .split ∨ c = .ch1) : s.testChannel arg = some c := by
  simp [State.testChannel, harg, (usesChannel_iff _ _).2 huses]

/-- The request names no channel in use (R189). -/
theorem State.testChannel_eq_none {s : State} {arg : Byte}
    (h : arg.toNat = 0 ∨ 2 < arg.toNat ∨ (arg.toNat = 2 ∧ s.arrangement = .joined)) : s.testChannel arg = none := by
  rcases h with h | h | ⟨h, ha⟩
  · simp [State.testChannel, argChannel_eq, h]
  · have h1 : arg.toNat ≠ 1 := by omega
    have h2 : arg.toNat ≠ 2 := by omega
    simp [State.testChannel, argChannel_eq, h1, h2]
  · simp [State.testChannel, argChannel_eq, h, ha, usesChannel]

theorem State.responderBusy_eq_false_iff (s : State) :
    s.responderBusy = false ↔ s.service.test = .none ∧ s.service.restartMark = false := by
  simp [State.responderBusy]

/-- A refusal puts its reply in the reply slot and changes nothing else (R189, R190). -/
theorem State.refuse_eq (s : State) (kind : Byte) (why : ReplyReason) : s.refuse kind why =
    { s with link := { s.link with reply := { s.link.reply with
        waiting := some ⟨[kind, BitVec.ofNat 8 (192 + 8 * reasonCode why + s.position.val)], false⟩ } } } := rfl

/-- A VALVE_TEST for the own position, once the responder runs, is judged after the wake notice (R185, R189, R198). -/
theorem exec_valveTest {s : State} {req : ServiceReq} (hon : s.responderOn = true) (hlength : req.length = 3)
    (htarget : req.byte0.toNat % 8 = s.position.val) : exec (.valveTest req) s =
      .next (((s.take (.valveTest req)).hand [.wakeEvent .request]).judgeTest req.arg) := by
  have htarget' : requestTarget req = s.position.val := by simp [requestTarget, bitsOf_eq, htarget]
  have hjudge : ∀ u : State, u.judgeRequest reqValveTest req.arg = u.judgeTest req.arg := fun _ => rfl
  have htake : (s.take (.valveTest req)).takeRequest reqValveTest req =
      ((s.take (.valveTest req)).hand [.wakeEvent .request]).judgeRequest reqValveTest req.arg := by
    have hon' : (s.take (.valveTest req)).responderOn = true := hon
    have hposition : (s.take (.valveTest req)).position = s.position := rfl
    simp [State.takeRequest, hon', hlength, hposition, htarget']
  exact congrArg Host.Outcome.next (htake.trans (hjudge _))

theorem State.judgeTest_unnamed {s : State} {arg : Byte} (h : s.testChannel arg = none) :
    s.judgeTest arg = s.refuse reqValveTest .badRequest := by
  simp only [State.judgeTest, h]

section
variable {s : State} {arg : Byte} {c : Channel} (hc : s.testChannel arg = some c)
include hc

theorem State.judgeTest_busy (h : s.responderBusy = true) : s.judgeTest arg = s.refuse reqValveTest .busy := by
  simp [State.judgeTest, hc, State.commonRefusal, h]

theorem State.judgeTest_moving (h : s.responderBusy = false) (hv : s.view.vref ≠ 0) :
    s.judgeTest arg = s.refuse reqValveTest .moving := by
  simp [State.judgeTest, hc, State.commonRefusal, h, hv]

/-- BRAKING is the refusal for a set braking flag and for a channel that does not rest (R189). -/
theorem State.judgeTest_braking (h : s.responderBusy = false) (hv : s.view.vref = 0)
    (hb : ¬(s.pressure.braking = false ∧ s.channelsRest = true)) : s.judgeTest arg = s.refuse reqValveTest .braking := by
  cases hbraking : s.pressure.braking
  · simp [State.judgeTest, hc, State.commonRefusal, h, hv, hbraking, Bool.eq_false_iff.2 fun hr => hb ⟨hbraking, hr⟩]
  · simp [State.judgeTest, hc, State.commonRefusal, h, hv, hbraking]

/-- A free and still station with its channels at rest: the supply and the channel itself decide (R189). -/
theorem State.judgeTest_atRest (h : s.responderBusy = false) (hv : s.view.vref = 0)
    (hb : s.pressure.braking = false) (hr : s.channelsRest = true) : s.judgeTest arg =
      if s.supply.state ≠ .normal then s.refuse reqValveTest .supply
      else if (chanGet s.slip c).phase = .passive then s.refuse reqValveTest .badRequest
      else s.acceptTest c := by
  simp [State.judgeTest, hc, State.commonRefusal, h, hv, hb, hr, supplyLow_iff]

/-- The refusals of a request that names a channel in use, by their codes, in the order of R189. -/
theorem State.judgeTest_refused {why : Nat}
    (h : (why = 3 ∧ ¬s.responderBusy = false) ∨ (why = 1 ∧ s.responderBusy = false ∧ ¬s.view.vref = 0)
      ∨ (why = 2 ∧ s.responderBusy = false ∧ s.view.vref = 0 ∧ ¬(s.pressure.braking = false ∧ s.channelsRest = true))
      ∨ (why = 4 ∧ s.responderBusy = false ∧ s.view.vref = 0 ∧ (s.pressure.braking = false ∧ s.channelsRest = true)
        ∧ s.supply.state ≠ .normal)
      ∨ (why = 5 ∧ s.responderBusy = false ∧ s.view.vref = 0 ∧ (s.pressure.braking = false ∧ s.channelsRest = true)
        ∧ s.supply.state = .normal ∧ (chanGet s.slip c).phase = .passive)) :
    ∃ reason, reasonCode reason = why ∧ s.judgeTest arg = s.refuse reqValveTest reason := by
  rcases h with ⟨rfl, hf⟩ | ⟨rfl, hf, hv⟩ | ⟨rfl, hf, hv, hr⟩ | ⟨rfl, hf, hv, ⟨hb, hr⟩, hn⟩ |
    ⟨rfl, hf, hv, ⟨hb, hr⟩, hn, hp⟩
  · exact ⟨.busy, rfl, State.judgeTest_busy hc (by simpa using hf)⟩
  · exact ⟨.moving, rfl, State.judgeTest_moving hc hf hv⟩
  · exact ⟨.braking, rfl, State.judgeTest_braking hc hf hv hr⟩
  · exact ⟨.supply, rfl, (State.judgeTest_atRest hc hf hv hb hr).trans (if_pos hn)⟩
  · exact ⟨.badRequest, rfl, (State.judgeTest_atRest hc hf hv hb hr).trans ((if_neg (not_not.2 hn)).trans (if_pos hp))⟩

end

/-! ## SERVICE_ANSWER (R194) -/

section
variable {s : State} {c : Channel}

/-- The test starts: TEST, the first HOLD and the reply STARTED (R89, R194, R195). -/
theorem State.startTest_starts (h : (chanGet s.slip c).phase = .inactive)
    (ho : restingPhase (chanGet s.slip (otherChannel c)).phase = true) : s.startTest c =
      { s with
        slip := chanSet s.slip c { chanGet s.slip c with phase := .test }
        service := { s.service with test := .running c 1 .hold, stepTimer := some ⟨s.now, 100000⟩ }
        handed := s.handed ++ [.phaseHandoff c .test (chanGet s.slip c).cap, .lanePhaseCopy c .test, .testStep c .hold]
        link := { s.link with reply := { s.link.reply with
          waiting := some ⟨[5#8, BitVec.ofNat 8 (64 + s.position.val), channelByte c], false⟩ } } } := by
  have hhanded : s.handed ++ phaseHandoffs c { chanGet s.slip c with phase := .test } ++ [.testStep c .hold] =
      s.handed ++ [.phaseHandoff c .test (chanGet s.slip c).cap, .lanePhaseCopy c .test, .testStep c .hold] :=
    List.append_assoc ..
  rw [State.startTest, if_pos ⟨h, ho⟩, ← hhanded]
  rfl

/-- The reason a moved channel gives the refusal, in the reply's second byte (R194; 12, section 12.4). -/
theorem reasonCode_moved (p : Phase) :
    8 * reasonCode (if p = .passive then .badRequest else .braking) = if p = .passive then 40 else 16 := by
  split <;> rfl

/-- A channel that has moved since the request ends the test (R194). -/
theorem State.startTest_ends (h : ¬((chanGet s.slip c).phase = .inactive
      ∧ restingPhase (chanGet s.slip (otherChannel c)).phase = true)) : s.startTest c =
      ((s.endTest).hand [.serviceExit]).refuse reqValveTest
        (if (chanGet s.slip c).phase = .passive then .badRequest else .braking) :=
  if_neg h

theorem State.takeAnswer_asking (h : s.service.test = .asking c) (accepted : Bool) :
    s.takeAnswer accepted = if accepted then s.startTest c else s.endTest.refuse reqValveTest .busy := by
  simp only [State.takeAnswer, h]

theorem State.takeAnswer_void (h : ∀ c, s.service.test ≠ .asking c) (accepted : Bool) : s.takeAnswer accepted = s := by
  unfold State.takeAnswer
  split
  · next c hc => exact absurd hc (h c)
  all_goals rfl

end

/-- Settles O59: the request judged case by case, and the fault unit's answer. -/
theorem valveTestAsksAndStarts : Obligations.ValveTestAsksAndStarts := by
  intro req ch other k p r s hne hp hr hk
  obtain rfl := eq_otherChannel hne
  subst hp hr
  have hargOf : req.arg = BitVec.ofNat 8 k → argChannel req.arg = some ch := by
    intro h
    rw [h]
    rcases hk with ⟨rfl, rfl⟩ | ⟨rfl, rfl⟩ <;> rfl
  have hbyte : BitVec.ofNat 8 k = channelByte ch := by
    rcases hk with ⟨rfl, rfl⟩ | ⟨rfl, rfl⟩ <;> rfl
  refine ⟨fun hon hlength htarget => ?_, fun accepted h => ?_, fun hasking => ⟨fun h ho => ?_, fun h => ?_, ?_⟩⟩
  · rw [exec_valveTest hon hlength htarget]
    obtain ⟨u, hu⟩ : ∃ u, u = (s.take (.valveTest req)).hand [.wakeEvent .request] := ⟨_, rfl⟩
    have hname : req.arg = BitVec.ofNat 8 k → s.arrangement = .split ∨ ch = .ch1 → u.testChannel req.arg = some ch := by
      intro harg huses
      rw [hu]
      exact State.testChannel_eq (hargOf harg) huses
    have hrest : u.channelsRest = true ↔ ((chanGet s.slip ch).phase = .inactive ∨ (chanGet s.slip ch).phase = .passive)
        ∧ ((chanGet s.slip (otherChannel ch)).phase = .inactive
          ∨ (chanGet s.slip (otherChannel ch)).phase = .passive) := by
      rw [hu, State.channelsRest_iff _ ch, restingPhase_iff, restingPhase_iff]
      rfl
    have hfree : u.responderBusy = false ↔ s.service.test = .none ∧ s.service.restartMark = false := by
      rw [hu]
      exact State.responderBusy_eq_false_iff _
    have hslip : u.slip = s.slip := by rw [hu]; rfl
    have hvref : u.view.vref = s.view.vref := by rw [hu]; rfl
    have hbraking : u.pressure.braking = s.pressure.braking := by rw [hu]; rfl
    have hsupply : u.supply.state = s.supply.state := by rw [hu]; rfl
    rw [← hu]
    refine ⟨fun harg huses htest hmark hv hb hi ho hn => ?_, fun harg => ?_,
      fun why free still rest harg huses hfreeIff hstill hrestIff hwhy => ?_⟩
    · rw [State.judgeTest_atRest (hname harg huses) (hfree.2 ⟨htest, hmark⟩) (hvref.trans hv) (hbraking.trans hb)
        (hrest.2 ⟨.inl hi, ho⟩), if_neg (by simp [hsupply, hn]), if_neg (by simp [hslip, hi]), hu]
      simp [State.acceptTest, State.hand, State.take]
    · have hnone : u.testChannel req.arg = none := by
        rw [hu]
        exact State.testChannel_eq_none harg
      rw [State.judgeTest_unnamed hnone, hu]
      rfl
    · have hrestIff' : rest ↔ u.pressure.braking = false ∧ u.channelsRest = true := by
        rw [hrestIff, hrest, hbraking]
      rw [hfreeIff, ← hfree, hstill, ← hvref, hrestIff', ← hsupply, ← hslip] at hwhy
      obtain ⟨reason, hreason, hrefused⟩ := State.judgeTest_refused (hname harg huses) hwhy
      rw [hrefused, State.refuse_eq, hreason, hu]
      rfl
  · exact congrArg Host.Outcome.next (State.takeAnswer_void (s := s.take (.serviceAnswer accepted)) h accepted)
  · rw [hbyte]
    exact congrArg Host.Outcome.next ((State.takeAnswer_asking (s := s.take (.serviceAnswer true)) hasking true).trans
      (State.startTest_starts (s := s.take (.serviceAnswer true)) h ((restingPhase_iff _).2 ho)))
  · have hmoved : ¬((chanGet s.slip ch).phase = .inactive
        ∧ restingPhase (chanGet s.slip (otherChannel ch)).phase = true) := by
      rw [restingPhase_iff]
      tauto
    refine congrArg Host.Outcome.next ((State.takeAnswer_asking (s := s.take (.serviceAnswer true)) hasking true).trans
      ((State.startTest_ends (s := s.take (.serviceAnswer true)) hmoved).trans ?_))
    rw [State.refuse_eq]
    rw [reasonCode_moved]
    rfl
  · exact congrArg Host.Outcome.next (State.takeAnswer_asking (s := s.take (.serviceAnswer false)) hasking false)

end Sys2Proof.Machine

namespace Sys2Proof.Machine

/-! ## Falling back from any mode (R88, R147, R154) -/

theorem forcedOnce_of_passive {r : ChannelRec} (h : r.phase = .passive) : forcedOnce r = r := if_pos h

theorem forcedOnce_of_ne {r : ChannelRec} (h : r.phase ≠ .passive) : forcedOnce r = forcedRecord r := if_neg h

theorem forceHandoffs_of_passive {r : ChannelRec} (h : r.phase = .passive) (c : Channel) : forceHandoffs c r = [] :=
  if_pos h

/-- What a fall into PASSIVE or LATCHED hands on besides its alert: the mode, each forcing, and the test-abort notice for a
channel in TEST where the mode did not give it (R147, R154; log entry 1). -/
def State.fallHandoffs (s : State) (m : Mode) : List Instr :=
  modeHandoffs s.fault.mode m s.testRunning ++ forceHandoffs .ch1 s.slip.ch1 ++ forceHandoffs .ch2 s.slip.ch2
    ++ if (s.slip.ch1.phase = .test ∨ s.slip.ch2.phase = .test) ∧ ¬(s.fault.mode = .service ∧ s.testRunning = true)
      then [.abortEvent (.modeChange m)] else []

/-- Giving up from any other mode: the mode, the forcings, the end of the standstill run and the hand-offs (R147, R154,
R174). -/
theorem State.giveUp_of_ne {s : State} {m : Mode} (h : s.fault.mode ≠ m) : s.giveUp m =
    { s with
      fault := { s.fault with mode := m }, slip := ⟨forcedOnce s.slip.ch1, forcedOnce s.slip.ch2⟩
      standstill := if s.fault.mode = .active then none else s.standstill
      handed := s.handed ++ s.fallHandoffs m } := by
  have habort : (s.inTest && !(decide (s.fault.mode = .service) && s.testRunning)) = true ↔
      (s.slip.ch1.phase = .test ∨ s.slip.ch2.phase = .test) ∧ ¬(s.fault.mode = .service ∧ s.testRunning = true) := by
    simp [State.inTest, imp_iff_not_or]
  rw [State.giveUp, State.setMode, if_neg h, State.forceAll_eq, State.fallHandoffs]
  simp only [habort]
  split <;> simp [State.hand]

/-- The hand-offs of a mode change into PASSIVE or LATCHED (R147). -/
theorem modeHandoffs_fall {m : Mode} (h : m = .passive ∨ m = .latched) (old : Mode) (runs : Bool) :
    modeHandoffs old m runs = [.modeChangeToDriver m]
      ++ (if old = .quiet then [.samplePeriodChange false, .quietReportChange false] else [])
      ++ (if old = .service ∧ runs = true then [.abortEvent (.modeChange m)] else []) := by
  rcases h with rfl | rfl <;> cases old <;> cases runs <;> rfl

/-- With one channel PASSIVE already only the other is forced (R88, R154). -/
theorem State.giveUp_of_passive {s : State} {m : Mode} {c : Channel} (h : s.fault.mode ≠ m)
    (hc : (chanGet s.slip c).phase = .passive) : s.giveUp m =
      { s with
        fault := { s.fault with mode := m }
        slip := chanSet s.slip (otherChannel c) (forcedOnce (chanGet s.slip (otherChannel c)))
        standstill := if s.fault.mode = .active then none else s.standstill
        handed := s.handed ++ (modeHandoffs s.fault.mode m s.testRunning
          ++ forceHandoffs (otherChannel c) (chanGet s.slip (otherChannel c))
          ++ if (chanGet s.slip (otherChannel c)).phase = .test ∧ ¬(s.fault.mode = .service ∧ s.testRunning = true)
            then [.abortEvent (.modeChange m)] else []) } := by
  rw [State.giveUp_of_ne h, State.fallHandoffs]
  cases c <;> simp only [chanGet] at hc <;>
    simp [otherChannel, chanGet, chanSet, forcedOnce_of_passive, forceHandoffs_of_passive, hc]

theorem State.toPassive_eq {s : State} (code : Nat) (h : s.fault.mode ≠ .passive) : s.toPassive code =
    { s with
      fault := { s.fault with mode := .passive }, slip := ⟨forcedOnce s.slip.ch1, forcedOnce s.slip.ch2⟩
      standstill := if s.fault.mode = .active then none else s.standstill
      handed := s.handed ++ (s.fallHandoffs .passive ++ [moduleAlert .modulePassive code]) } := by
  rw [State.toPassive, State.giveUp_of_ne h, ← List.append_assoc]
  rfl

theorem State.toLatched_eq {s : State} (code : Nat) (h : s.fault.mode ≠ .latched) : s.toLatched code =
    { s with
      fault := { s.fault with mode := .latched }, slip := ⟨forcedOnce s.slip.ch1, forcedOnce s.slip.ch2⟩
      standstill := if s.fault.mode = .active then none else s.standstill
      handed := s.handed ++ (s.fallHandoffs .latched ++ [moduleAlert .moduleLatched code]) } := by
  rw [State.toLatched, State.giveUp_of_ne h, ← List.append_assoc]
  rfl

/-- A module fault leads to PASSIVE from every mode above it (R152). -/
theorem State.moduleFault_toPassive {s : State} (code : Nat) (hpassive : s.fault.mode ≠ .passive)
    (hlatched : s.fault.mode ≠ .latched) : s.moduleFault code = s.toPassive code := by
  unfold State.moduleFault
  split
  case h_6 h => exact absurd h hpassive
  case h_7 h => exact absurd h hlatched
  all_goals rfl

/-! ## The record (R160 to R162) -/

/-- The record after a notice that captures, taken into the mode `m`: the notice as it was found, or the record that stood;
in LATCHED it carries its latch flag (R161, R162). -/
def recordAfter (found : State) (n : Notice) (m : Mode) : Option FaultRecord :=
  some (found.fault.record.elim (captureOf found n (decide (m = .latched))) fun r =>
    { r with latch := r.latch || decide (m = .latched) })

/-- A notice that captures, by what its class does to the state (R148, R161 to R163). -/
theorem State.takeNotice_eq {s t : State} {n : Notice} (hn : captures n = true)
    (ht : (s.seeCause (noticeCause n)).ladder n = t) (hrecord : t.fault.record = s.fault.record) :
    s.takeNotice n = { t with fault := { t.fault with record := recordAfter s n t.fault.mode } } := by
  rw [State.takeNotice, ht, recordAfter]
  cases hr : s.fault.record with
  | none => simp [State.capture, hr, hn]
  | some r =>
    by_cases hm : t.fault.mode = .latched
    · simp [State.capture, hr, State.latchFlag, hm, hrecord, latchRecord]
    · simp only [State.capture, hr, State.latchFlag, hm, Option.isNone_some, Bool.false_and, Bool.false_eq_true,
        if_false, decide_false, Bool.or_false, Option.elim_some]
      rw [← hrecord.trans hr]

/-! ## The channel fault (R149 to R151, R155) -/

/-- A channel forced with its alert, or left as it is when it is PASSIVE already (R88, R149, R155; log entry 9). -/
theorem State.forceWithAlert_eq (s : State) (cause : ChannelCause) (c : Channel) : s.forceWithAlert cause c =
    { s with
      slip := chanSet s.slip c (forcedOnce (chanGet s.slip c))
      handed := s.handed ++ (if (chanGet s.slip c).phase = .passive then [] else
        phaseHandoffs c (forcedRecord (chanGet s.slip c)) ++ faultHandoffs cause c (chanGet s.slip c).phase) } := by
  by_cases h : (chanGet s.slip c).phase = .passive
  · simp [State.forceWithAlert, forcedOnce, h]
  · simp [State.forceWithAlert, forcedOnce, h, State.force, State.hand, State.setChannel]

/-- STARTING, ACTIVE, QUIET and SERVICE take a channel fault alike (R149). -/
theorem State.channelLadder_working {s : State} (h : s.fault.mode ∈ [Mode.starting, .active, .quiet, .service])
    (cause : ChannelCause) (c : Channel) : s.channelLadder cause c = s.channelFault cause c := by
  simp only [List.mem_cons, List.not_mem_nil, or_false] at h
  rcases h with h | h | h | h <;> simp only [State.channelLadder, h]

theorem State.usable_iff (s : State) (c : Channel) : s.usable c = true ↔
    (s.arrangement = .split ∨ c = .ch1) ∧ (chanGet s.slip c).phase ≠ .passive := by
  simp [State.usable, usesChannel_iff]

/-- With a PASSIVE channel the other alone may be usable (R150). -/
theorem State.anyUsable_of_passive {s : State} {c : Channel} (h : (chanGet s.slip c).phase = .passive) :
    s.anyUsable = s.usable (otherChannel c) := by
  have hc : s.usable c = false := by simp [State.usable, h]
  cases c
  · rw [State.anyUsable, hc, Bool.false_or, otherChannel]
  · rw [State.anyUsable, hc, Bool.or_false, otherChannel]

theorem forcedOnce_phase_passive (r : ChannelRec) : (forcedOnce r).phase = .passive := by
  unfold forcedOnce
  split
  · assumption
  · rfl

theorem State.forceWithAlert_passive (s : State) (cause : ChannelCause) (c : Channel) :
    (chanGet (s.forceWithAlert cause c).slip c).phase = .passive := by
  rw [State.forceWithAlert_eq]
  simp [forcedOnce_phase_passive]

theorem chanGet_otherChannel {α : Type} (x : Chans α) (c : Channel) (a : α) :
    chanGet (chanSet x c a) (otherChannel c) = chanGet x (otherChannel c) := by
  cases c <;> rfl

/-- After a channel fault has forced its channel, the other decides whether ALL_CHANNELS is raised (R150). -/
theorem State.forceWithAlert_anyUsable (s : State) (cause : ChannelCause) (c : Channel) :
    (s.forceWithAlert cause c).anyUsable = s.usable (otherChannel c) := by
  rw [State.anyUsable_of_passive (s.forceWithAlert_passive cause c), State.forceWithAlert_eq]
  simp only [State.usable, chanGet_otherChannel]
  rfl

section
variable {s : State} {c : Channel} (cause : ChannelCause)

theorem State.channelFault_passive (h : (chanGet s.slip c).phase = .passive) : s.channelFault cause c = s := if_pos h

theorem State.channelFault_other (h : (chanGet s.slip c).phase ≠ .passive) (ho : s.usable (otherChannel c) = true) :
    s.channelFault cause c = s.forceWithAlert cause c :=
  (if_neg h).trans (if_pos ((s.forceWithAlert_anyUsable cause c).trans ho))

theorem State.channelFault_last (h : (chanGet s.slip c).phase ≠ .passive) (ho : s.usable (otherChannel c) = false)
    (hpassive : s.fault.mode ≠ .passive) (hlatched : s.fault.mode ≠ .latched) :
    s.channelFault cause c = ((s.forceWithAlert cause c).seeCause .allChannels).toPassive 13 := by
  have hnone : ¬(s.forceWithAlert cause c).anyUsable = true := by simp [State.forceWithAlert_anyUsable, ho]
  exact (if_neg h).trans ((if_neg hnone).trans
    (State.moduleFault_toPassive 13 (by simpa using hpassive) (by simpa using hlatched)))

/-- A station whose faulty channel is forced falls to PASSIVE with its other channel (R88, R147, R154, R155). -/
theorem State.toPassive_forced {s : State} (h : s.fault.mode ≠ .passive) (cause : ChannelCause) (c : Channel)
    (more : Cause) (code : Nat) : ((s.forceWithAlert cause c).seeCause more).toPassive code =
      { s with
        fault := { s.fault with mode := .passive, seen := s.fault.seen ||| causeBit more }
        slip := chanSet (chanSet s.slip c (forcedOnce (chanGet s.slip c))) (otherChannel c)
          (forcedOnce (chanGet s.slip (otherChannel c)))
        standstill := if s.fault.mode = .active then none else s.standstill
        handed := (s.forceWithAlert cause c).handed ++ (modeHandoffs s.fault.mode .passive s.testRunning
          ++ forceHandoffs (otherChannel c) (chanGet s.slip (otherChannel c))
          ++ (if (chanGet s.slip (otherChannel c)).phase = .test ∧ ¬(s.fault.mode = .service ∧ s.testRunning = true)
            then [.abortEvent (.modeChange .passive)] else [])
          ++ [moduleAlert .modulePassive code]) } := by
  have hmode : ((s.forceWithAlert cause c).seeCause more).fault.mode ≠ .passive := by simpa using h
  have hforced : (chanGet ((s.forceWithAlert cause c).seeCause more).slip c).phase = .passive :=
    s.forceWithAlert_passive cause c
  rw [State.toPassive, State.giveUp_of_passive hmode hforced, State.forceWithAlert_eq]
  simp [State.seeCause, State.hand, chanGet_otherChannel, State.testRunning]
  rfl

end

/-- A notice taken off the list, its code in the cause-seen set, before its class acts (R148, R163). -/
def State.noted (s : State) (n : Notice) : State := (s.take (.faultNotice n)).seeCause (noticeCause n)

/-- FAULT_NOTICE with a notice that captures, by what its class does to the state (R148, R161 to R163). -/
theorem exec_faultNotice {s t : State} {n : Notice} (hbegun : s.begun = true) (hn : captures n = true)
    (ht : (s.noted n).ladder n = t) (hrecord : t.fault.record = s.fault.record) : exec (.faultNotice n) s =
      .next { t with fault := { t.fault with record := recordAfter s n t.fault.mode } } :=
  (congrArg Host.Outcome.next (if_pos hbegun)).trans
    (congrArg Host.Outcome.next (State.takeNotice_eq (s := s.take (.faultNotice n)) hn ht hrecord))

end Sys2Proof.Machine

namespace Sys2Proof.Machine

/-- The codes of the channel faults (08, section 8.2). -/
theorem channelCauseCode_eq {cause : ChannelCause} {code : Nat}
    (h : (cause, code) ∈ [(ChannelCause.speedWire, 1), (.speedJump, 2), (.speedDead, 3), (.chamberSensor, 4),
      (.valveOpen, 5), (.valveShort, 6), (.releaseOverrun, 7), (.tracking, 8)]) : channelCauseCode cause = code := by
  simp only [List.mem_cons, Prod.mk.injEq, List.not_mem_nil, or_false] at h
  rcases h with ⟨rfl, rfl⟩ | ⟨rfl, rfl⟩ | ⟨rfl, rfl⟩ | ⟨rfl, rfl⟩ | ⟨rfl, rfl⟩ | ⟨rfl, rfl⟩ | ⟨rfl, rfl⟩ | ⟨rfl, rfl⟩ <;>
    rfl

/-- Settles O53: a channel already PASSIVE, one of two usable channels, and the last usable one. -/
theorem channelFaultForcesChannel : Obligations.ChannelFaultForcesChannel := by
  intro cause code ch other r o c f s testRuns forced told hbegun hc hmode hne hr ho hcode hf htests hforced htold
  obtain rfl := channelCauseCode_eq hcode
  obtain rfl := eq_otherChannel hne
  obtain rfl : forced = forcedRecord := funext hforced
  replace htests : testRuns = s.testRunning := htests
  subst hc hr ho htests
  obtain ⟨n, hn⟩ : ∃ n, n = Notice.channelFault cause ch false := ⟨_, rfl⟩
  rw [← hn] at htold ⊢
  obtain ⟨v, hv⟩ : ∃ v, v = s.noted n := ⟨_, rfl⟩
  have hvmode : v.fault.mode = s.fault.mode := by rw [hv]; rfl
  have hslip : v.slip = s.slip := by rw [hv]; rfl
  have hpassive : v.fault.mode ≠ .passive := by
    rintro h
    simp [← hvmode, h] at hmode
  have hlatched : v.fault.mode ≠ .latched := by
    rintro h
    simp [← hvmode, h] at hmode
  have hfault : ∀ m, m ≠ .latched → f = { v.fault with mode := s.fault.mode, record := recordAfter s n m } := by
    intro m hm
    rw [hf, hv, hn, recordAfter]
    cases hrec : s.fault.record <;>
      simp [hrec, hm, captureOf, noticeCause, State.noted, State.seeCause, causeBit, causeCode]
  have hladder : v.ladder n = v.channelFault cause ch := by
    rw [hn]
    exact State.channelLadder_working (by rwa [hvmode]) cause ch
  have hexec : ∀ {t}, v.channelFault cause ch = t → t.fault.record = s.fault.record → exec (.faultNotice n) s =
      .next { t with fault := { t.fault with record := recordAfter s n t.fault.mode } } := by
    intro t ht hrec
    refine exec_faultNotice hbegun (by rw [hn]; rfl) ?_ hrec
    rw [← ht, ← hladder, hv]
  have htold' : (chanGet s.slip ch).phase ≠ .passive → told = (v.forceWithAlert cause ch).handed := by
    intro hp
    rw [htold, State.forceWithAlert_eq, hv]
    simp [State.noted, hp, phaseHandoffs, forcedRecord, faultHandoffs]
  have husable : v.usable (otherChannel ch) = true ↔ (s.arrangement = .split ∨ otherChannel ch = .ch1)
      ∧ (chanGet s.slip (otherChannel ch)).phase ≠ .passive := by
    rw [State.usable_iff, hslip, hv]
    rfl
  rw [← hslip] at husable htold' ⊢
  refine ⟨fun hp => ?_, fun hp ho huses => ?_, fun hp ho => ?_⟩
  · rw [hexec (State.channelFault_passive cause hp) (by rw [hv]; rfl), hfault s.fault.mode (hvmode ▸ hlatched), hv]
    rfl
  · rw [hexec (State.channelFault_other cause hp (husable.2 ⟨huses, ho⟩)) (by rw [State.forceWithAlert_eq, hv]; rfl),
      htold' hp, hfault s.fault.mode (hvmode ▸ hlatched), State.forceWithAlert_eq, forcedOnce_of_ne hp, hv]
    rfl
  · have hlast : v.usable (otherChannel ch) = false := by
      rw [Bool.eq_false_iff, Ne, husable]
      rintro ⟨huses, hother⟩
      rcases ho with ho | ⟨hjoined, hch2⟩
      · exact hother ho
      · simp [hjoined, hch2] at huses
    rw [hexec ((State.channelFault_last cause hp hlast hpassive hlatched).trans
        (State.toPassive_forced hpassive cause ch _ 13)) (by rw [hv]; rfl),
      htold' hp, hfault .passive nofun, modeHandoffs_fall (.inl rfl), hvmode, forcedOnce_of_ne hp]
    simp only [List.append_assoc, forceHandoffs, forcedOnce]
    rw [hv]
    rfl

end Sys2Proof.Machine

namespace Sys2Proof.Machine

/-! ## Promotion and latching (R151 to R153) -/

/-- What a notice that captures brings to the fault memory, its code and its capture, by its class (R160, R163). -/
theorem notice_memory {s : State} {n : Notice} {code : Nat} {cause : Cause} {channel : Option Channel}
    {phase : Option Phase}
    (h : n = .configBad ∧ code = 11 ∧ cause = .configBad ∧ channel = none ∧ phase = none
      ∨ n = .positionClash ∧ code = 12 ∧ cause = .positionClash ∧ channel = none ∧ phase = none
      ∨ ∃ x ch, n = .channelFault x ch false ∧ cause = .channel x ∧ channel = some ch
        ∧ phase = some (chanGet s.slip ch).phase ∧ channelCauseCode x = code) :
    captures n = true ∧ causeBit (noticeCause n) = BitVec.ofNat 16 (2 ^ (code - 1))
      ∧ ∀ latch, captureOf s n latch = ⟨cause, channel, phase, s.fault.mode, s.fault.millis, s.view.vref, latch⟩ := by
  rcases h with ⟨rfl, rfl, rfl, rfl, rfl⟩ | ⟨rfl, rfl, rfl, rfl, rfl⟩ | ⟨x, ch, rfl, rfl, rfl, rfl, rfl⟩ <;>
    exact ⟨rfl, rfl, fun _ => rfl⟩

/-- The station after a notice has made it fall to the mode `m`, with the codes `extra` seen beside its own (R88, R148,
R154, R160 to R163). -/
def State.fallen (s : State) (n : Notice) (m : Mode) (extra : BitVec 16) (handed : List Instr) : State :=
  { s with
    fault := { s.fault with
      mode := m, seen := s.fault.seen ||| causeBit (noticeCause n) ||| extra, record := recordAfter s n m }
    slip := ⟨forcedOnce s.slip.ch1, forcedOnce s.slip.ch2⟩
    standstill := if s.fault.mode = .active then none else s.standstill
    handed := s.handed.erase (.faultNotice n) ++ handed }

section
variable {s : State} (hbegun : s.begun = true)
include hbegun

/-- A notice that captures makes the station fall where its class does. -/
theorem exec_fallen {n : Notice} {m : Mode} {extra : BitVec 16} {handed : List Instr} (hn : captures n = true)
    (h : (s.noted n).ladder n = { s.noted n with
      fault := { (s.noted n).fault with mode := m, seen := (s.noted n).fault.seen ||| extra }
      slip := ⟨forcedOnce s.slip.ch1, forcedOnce s.slip.ch2⟩
      standstill := if s.fault.mode = .active then none else s.standstill
      handed := (s.noted n).handed ++ handed }) : exec (.faultNotice n) s = .next (s.fallen n m extra handed) :=
  exec_faultNotice hbegun hn h rfl

/-- In HELD a channel fault forces its channel and promotes to PASSIVE (R151; log entries 9 and 19). -/
theorem exec_channelFault_held (h : s.fault.mode = .held) (cause : ChannelCause) (c : Channel) :
    exec (.faultNotice (.channelFault cause c false)) s =
      .next (s.fallen (.channelFault cause c false) .passive 8192#16
        ((if (chanGet s.slip c).phase = .passive then [] else
            phaseHandoffs c (forcedRecord (chanGet s.slip c)) ++ faultHandoffs cause c (chanGet s.slip c).phase)
          ++ [.modeChangeToDriver .passive] ++ forceHandoffs (otherChannel c) (chanGet s.slip (otherChannel c))
          ++ (if (chanGet s.slip (otherChannel c)).phase = .test then [.abortEvent (.modeChange .passive)] else [])
          ++ [moduleAlert .modulePassive 14])) := by
  obtain ⟨v, hv⟩ : ∃ v, v = s.noted (.channelFault cause c false) := ⟨_, rfl⟩
  have hmode : v.fault.mode = .held := by rw [hv]; exact h
  have hladder : v.ladder (.channelFault cause c false) =
      ((v.forceWithAlert cause c).seeCause .promoted).toPassive 14 := by
    simp [State.ladder, State.channelLadder, hmode]
  have hchans : chanSet (chanSet v.slip c (forcedOnce (chanGet v.slip c))) (otherChannel c)
      (forcedOnce (chanGet v.slip (otherChannel c))) = ⟨forcedOnce v.slip.ch1, forcedOnce v.slip.ch2⟩ := by
    cases c <;> rfl
  have hmodeHandoffs : modeHandoffs .held .passive v.testRunning = [.modeChangeToDriver .passive] := by
    simp [modeHandoffs_fall]
  have hheld : ∀ p : Prop, (p ∧ ¬(Mode.held = .service ∧ v.testRunning = true)) = p := by simp
  refine exec_fallen hbegun rfl ?_
  rw [← hv, hladder, State.toPassive_forced (by simp [hmode]), hchans, State.forceWithAlert_eq, hmode, hmodeHandoffs]
  simp only [hheld, List.append_assoc]
  rw [hv, h]
  rfl

/-- In PASSIVE a channel fault promotes to LATCHED (R151). -/
theorem exec_channelFault_passive (h : s.fault.mode = .passive) (cause : ChannelCause) (c : Channel) :
    exec (.faultNotice (.channelFault cause c false)) s =
      .next (s.fallen (.channelFault cause c false) .latched 8192#16
        (s.fallHandoffs .latched ++ [moduleAlert .moduleLatched 14])) := by
  have hmode : (s.noted (.channelFault cause c false)).fault.mode = .passive := h
  have hladder : (s.noted (.channelFault cause c false)).ladder (.channelFault cause c false) =
      ((s.noted (.channelFault cause c false)).seeCause .promoted).toLatched 14 := by
    simp [State.ladder, State.channelLadder, hmode]
  exact exec_fallen hbegun rfl (hladder.trans (State.toLatched_eq 14 (by simp [hmode])))

/-- CONFIG_BAD leads to PASSIVE from every mode above it (R152). -/
theorem exec_configBad_toPassive (hpassive : s.fault.mode ≠ .passive) (hlatched : s.fault.mode ≠ .latched) :
    exec (.faultNotice .configBad) s =
      .next (s.fallen .configBad .passive 0#16 (s.fallHandoffs .passive ++ [moduleAlert .modulePassive 11])) := by
  have hladder : (s.noted .configBad).ladder .configBad = (s.noted .configBad).toPassive 11 :=
    State.moduleFault_toPassive 11 hpassive hlatched
  refine exec_fallen hbegun rfl ?_
  rw [hladder, State.toPassive_eq 11 (s := s.noted .configBad) hpassive]
  rw [BitVec.or_zero]
  rfl

/-- CONFIG_BAD leads to LATCHED from PASSIVE (R152). -/
theorem exec_configBad_toLatched (h : s.fault.mode = .passive) : exec (.faultNotice .configBad) s =
    .next (s.fallen .configBad .latched 0#16 (s.fallHandoffs .latched ++ [moduleAlert .moduleLatched 11])) := by
  have hmode : (s.noted .configBad).fault.mode = .passive := h
  have hladder : (s.noted .configBad).ladder .configBad = (s.noted .configBad).toLatched 11 := by
    simp [State.ladder, State.moduleFault, hmode]
  refine exec_fallen hbegun rfl ?_
  rw [hladder, State.toLatched_eq 11 (by simp [hmode])]
  rw [BitVec.or_zero]
  rfl

/-- POSITION_CLASH leads to LATCHED from every other mode, its own alert first (R153, R155). -/
theorem exec_positionClash_toLatched (h : s.fault.mode ≠ .latched) : exec (.faultNotice .positionClash) s =
    .next (s.fallen .positionClash .latched 0#16
      ([moduleAlert .positionClash 12] ++ s.fallHandoffs .latched ++ [moduleAlert .moduleLatched 12])) := by
  have hmode : (s.noted .positionClash).fault.mode ≠ .latched := h
  have hladder : (s.noted .positionClash).ladder .positionClash =
      ((s.noted .positionClash).hand [moduleAlert .positionClash 12]).toLatched 12 := by
    simp [State.ladder, State.positionClash, hmode]
  refine exec_fallen hbegun rfl ?_
  rw [hladder, State.toLatched_eq 12 (s := (s.noted .positionClash).hand _) hmode, BitVec.or_zero,
    List.append_assoc [moduleAlert .positionClash 12], ← List.append_assoc (s.noted _).handed]
  rfl

/-- In LATCHED a notice of these classes is recorded, and a clash hands its alert; nothing else changes (R151 to R153). -/
theorem exec_faultNotice_latched (h : s.fault.mode = .latched) {n : Notice}
    (hn : n = .configBad ∨ n = .positionClash ∨ ∃ x ch, n = .channelFault x ch false) : exec (.faultNotice n) s =
    .next { s with
      fault := { s.fault with seen := s.fault.seen ||| causeBit (noticeCause n), record := recordAfter s n .latched }
      handed := s.handed.erase (.faultNotice n) ++ if n = .positionClash then [moduleAlert .positionClash 12] else [] } := by
  have hcap : captures n = true := by
    rcases hn with rfl | rfl | ⟨x, ch, rfl⟩ <;> rfl
  have hmode : (s.noted n).fault.mode = .latched := h
  have hladder : (s.noted n).ladder n =
      (s.noted n).hand (if n = .positionClash then [moduleAlert .positionClash 12] else []) := by
    rcases hn with rfl | rfl | ⟨x, ch, rfl⟩ <;>
      simp [State.ladder, State.moduleFault, State.positionClash, State.channelLadder, hmode, State.hand]
  rw [exec_faultNotice hbegun hcap hladder rfl, ← h]
  rfl

end

/-- What a channel fault hands on as it forces its channel, read as the forcing, its alert and the test-abort notice (R88,
R149, R155; log entry 19). -/
theorem forced_faultHandoffs (cause : ChannelCause) (c : Channel) (r : ChannelRec) :
    (if r.phase = .passive then [] else phaseHandoffs c (forcedRecord r) ++ faultHandoffs cause c r.phase) =
      (if r.phase = .passive then []
        else forceHandoffs c r ++ [.alertHanded .channelPassive (some c) (channelCauseCode cause)])
      ++ if r.phase = .test then [.abortEvent .channelFault] else [] := by
  by_cases h : r.phase = .passive
  · simp [h]
  · simp [h, forceHandoffs, faultHandoffs]

/-- Settles O54: promotion, giving up and latching, by the notice and the mode it finds. -/
theorem faultsPromoteAndLatch : Obligations.FaultsPromoteAndLatch := by
  intro n code cause channel phase s testRuns forced tell moved record fallen hbegun hn htests hforced htell hmoved
    hrecord hfallen
  replace htests : testRuns = s.testRunning := htests
  obtain rfl : forced = forcedOnce := funext hforced
  obtain rfl : tell = fun ch => forceHandoffs ch (chanGet s.slip ch) := funext htell
  have hform : n = .configBad ∧ code = 11 ∧ cause = .configBad ∧ channel = none ∧ phase = none
      ∨ n = .positionClash ∧ code = 12 ∧ cause = .positionClash ∧ channel = none ∧ phase = none
      ∨ ∃ x ch, n = .channelFault x ch false ∧ cause = .channel x ∧ channel = some ch
        ∧ phase = some (chanGet s.slip ch).phase ∧ channelCauseCode x = code :=
    hn.imp_right (Or.imp_right fun ⟨x, ch, h1, h2, h3, h4, hcode⟩ => ⟨x, ch, h1, h2, h3, h4, channelCauseCode_eq hcode⟩)
  obtain ⟨-, hbit, hcapture⟩ := notice_memory hform
  have hrecordAfter : ∀ m, record m = recordAfter s n m := by
    intro m
    rw [hrecord, recordAfter]
    cases s.fault.record with
    | none => rw [Option.elim_none, hcapture]
    | some x => rfl
  have hfallenEq : ∀ m extra handed, fallen m extra handed = s.fallen n m extra handed := by
    intro m extra handed
    rw [hfallen, hrecordAfter, ← hbit]
    rfl
  have hmovedEq : ∀ m, m = .passive ∨ m = .latched → moved m = s.fallHandoffs m := by
    intro m hm
    rw [hmoved, htests, State.fallHandoffs, modeHandoffs_fall hm]
    rfl
  have hchannel : ∀ ch, channel = some ch → ∃ x, n = .channelFault x ch false ∧ channelCauseCode x = code := by
    rintro ch hch
    rcases hform with ⟨-, -, -, h, -⟩ | ⟨-, -, -, h, -⟩ | ⟨x, ch', h, -, hch', -, hcode⟩
    · cases h.symm.trans hch
    · cases h.symm.trans hch
    · obtain rfl := Option.some.inj (hch'.symm.trans hch)
      exact ⟨x, h, hcode⟩
  refine ⟨fun ch other r o hch hmode hne hr ho => ?_, fun hch hmode => ?_, fun hbad hpassive hlatched => ?_,
    fun hbad hmode => ?_, fun hclash hmode => ?_, fun hmode => ?_⟩
  · obtain ⟨x, rfl, rfl⟩ := hchannel ch hch
    obtain rfl := eq_otherChannel hne
    subst hr ho
    rw [exec_channelFault_held hbegun hmode, hfallenEq, forced_faultHandoffs]
    rfl
  · obtain ⟨ch, hch⟩ := Option.ne_none_iff_exists'.1 hch
    obtain ⟨x, rfl, -⟩ := hchannel ch hch
    rw [exec_channelFault_passive hbegun hmode, hfallenEq, hmovedEq _ (.inr rfl)]
    rfl
  · subst hbad
    rw [exec_configBad_toPassive hbegun hpassive hlatched, hfallenEq, hmovedEq _ (.inl rfl)]
    rfl
  · subst hbad
    rw [exec_configBad_toLatched hbegun hmode, hfallenEq, hmovedEq _ (.inr rfl)]
    rfl
  · subst hclash
    rw [exec_positionClash_toLatched hbegun hmode, hfallenEq, hmovedEq _ (.inr rfl)]
    rfl
  · have hclass : n = .configBad ∨ n = .positionClash ∨ ∃ x ch, n = .channelFault x ch false :=
      hform.imp And.left (Or.imp And.left fun ⟨x, ch, h, _⟩ => ⟨x, ch, h⟩)
    rw [exec_faultNotice_latched hbegun hmode hclass, hrecordAfter, hbit]
    rfl

end Sys2Proof.Machine

namespace Sys2Proof.Machine

/-! ## What mode and phase do not decide: drives, solenoids, integrator (R93, R99, R106 to R108) -/

/-- The part of a channel's law that reads neither mode nor phase: the drives are those of the pattern, both solenoids are
lawful, and the integrator keeps its bounds. -/
structure DriverChan.Sound (live : Bool) (c : DriverChan) : Prop where
  inletDrive : c.inlet.on = inletOn live c.pattern c
  outletDrive : c.outlet.on = outletOn live c.pattern c
  inlet : c.inlet.lawful
  outlet : c.outlet.lawful
  integrator : integratorMin ≤ c.integrator ∧ c.integrator ≤ integratorMax

/-- The part of a channel's law that mode and phase decide: the named pattern stands without tracking, and tracking goes on
where none is named (R94, R97). -/
def DriverChan.Agrees (m : Mode) (c : DriverChan) : Prop :=
  (∀ p, namedPattern m c.phase c.testPattern = some p → c.pattern = p ∧ c.tracking = false)
    ∧ (namedPattern m c.phase c.testPattern = none → c.tracking = true)

theorem DriverChan.lawful_iff (live : Bool) (m : Mode) (c : DriverChan) :
    c.lawful live m ↔ c.Sound live ∧ c.Agrees m := by
  constructor
  · rintro ⟨hin, hout, hinlet, houtlet, hnamed, htracked, hmin, hmax⟩
    exact ⟨⟨hin, hout, hinlet, houtlet, hmin, hmax⟩, hnamed, htracked⟩
  · rintro ⟨⟨hin, hout, hinlet, houtlet, hmin, hmax⟩, hnamed, htracked⟩
    exact ⟨hin, hout, hinlet, houtlet, hnamed, htracked, hmin, hmax⟩

theorem DriverChan.lawful.sound {live : Bool} {m : Mode} {c : DriverChan} (h : c.lawful live m) : c.Sound live :=
  ((DriverChan.lawful_iff _ _ _).1 h).1

theorem DriverChan.lawful.agrees {live : Bool} {m : Mode} {c : DriverChan} (h : c.lawful live m) : c.Agrees m :=
  ((DriverChan.lawful_iff _ _ _).1 h).2

/-- Only TEST reads the test pattern (R94). -/
theorem namedPattern_of_ne_test {p : Phase} (h : p ≠ .test) (m : Mode) (a b : Pattern) :
    namedPattern m p a = namedPattern m p b := by
  cases p
  case test => exact absurd rfl h
  all_goals rfl

/-! ## Solenoids (R106 to R108) -/

theorem driveSolenoid_lawful (t : Time) (on : Bool) {x : Solenoid} (h : x.lawful) : (driveSolenoid t on x).lawful := by
  obtain ⟨htimer, hcount, hmark⟩ := h
  obtain ⟨-, -, hcount', hmark'⟩ := driveSolenoid_spec t on x
  refine ⟨driveSolenoid_timer t on x htimer, ?_, ?_⟩
  · rwa [hcount']
  · rw [hmark', hcount', hmark]

theorem shortSolenoid_lawful {x : Solenoid} (h : x.lawful) : (shortSolenoid x).lawful := by
  obtain ⟨-, hcount, hmark⟩ := h
  exact ⟨fun _ => rfl, hcount, hmark⟩

theorem startCheck_lawful (t : Time) {x : Solenoid} (h : x.lawful) : (startCheck t x).lawful := by
  obtain ⟨-, hcount, hmark⟩ := h
  exact ⟨fun hshort => if_pos hshort, hcount, hmark⟩

theorem countOpen_passes {n : Nat} (h : n < 3) : countOpen false n = 0 := by
  rw [countOpen, if_neg (by omega)]
  rfl

theorem countOpen_counts {n : Nat} (h : n < 3) : countOpen true n = n + 1 := by
  rw [countOpen, if_neg (by omega)]
  rfl

/-- A failed check takes the count up to 3 at most, a passing one back to 0, and a count of 3 stays (R108). -/
theorem countOpen_cases (fails : Bool) (n : Nat) :
    (3 ≤ n ∧ countOpen fails n = 3) ∨ (n < 3 ∧ fails = true ∧ countOpen fails n = n + 1)
      ∨ (n < 3 ∧ fails = false ∧ countOpen fails n = 0) := by
  rcases Nat.lt_or_ge n 3 with h | h
  · cases fails
    · exact .inr (.inr ⟨h, rfl, countOpen_passes h⟩)
    · exact .inr (.inl ⟨h, rfl, countOpen_counts h⟩)
  · exact .inl ⟨h, if_pos h⟩

/-- A check is made only where the check timer runs, which that of a short-locked solenoid does not (R106, R107). -/
theorem checkedSolenoid_lawful {t : Time} {x : Solenoid} (fails : Bool) (h : x.lawful) (hdue : timerDue x.timer t = true) :
    (checkedSolenoid t fails x).lawful := by
  obtain ⟨htimer, hcount, hmark⟩ := h
  refine ⟨fun hshort => ?_, ?_, ?_⟩
  · obtain ⟨y, hy, -⟩ := (timerDue_iff _ _).1 hdue
    cases hy.symm.trans (htimer hshort)
  · show countOpen fails x.openCount ≤ 3
    rcases countOpen_cases fails x.openCount with ⟨-, e⟩ | ⟨hlt, -, e⟩ | ⟨-, -, e⟩ <;> omega
  · show (x.openMark || decide (3 ≤ countOpen fails x.openCount)) = decide (countOpen fails x.openCount = 3)
    rw [hmark, ← Bool.decide_or, decide_eq_decide]
    rcases countOpen_cases fails x.openCount with ⟨hle, e⟩ | ⟨hlt, -, e⟩ | ⟨hlt, -, e⟩ <;> omega

/-! ## What each operation on a channel keeps -/

section
variable {live : Bool} {c : DriverChan}

/-- A change of a channel outside its pattern, solenoids and integrator. -/
theorem DriverChan.Sound.of_frame {d : DriverChan} (h : c.Sound live) (hpattern : d.pattern = c.pattern)
    (hin : d.inlet = c.inlet) (hout : d.outlet = c.outlet)
    (hintegrator : integratorMin ≤ d.integrator ∧ d.integrator ≤ integratorMax) : d.Sound live where
  inletDrive := by rw [hpattern, inletOn, hin]; exact h.inletDrive
  outletDrive := by rw [hpattern, outletOn, inletOn, hin, hout]; exact h.outletDrive
  inlet := hin ▸ h.inlet
  outlet := hout ▸ h.outlet
  integrator := hintegrator

/-- A pattern applied drives both solenoids by it, whatever the arrangement was before (R93). -/
theorem applyPattern_sound {live' : Bool} (h : c.Sound live') (t : Time) (p : Pattern) :
    (applyPattern live t p c).Sound live where
  inletDrive := by simp [applyPattern, inletOn]
  outletDrive := by simp [applyPattern, outletOn, inletOn]
  inlet := driveSolenoid_lawful t _ h.inlet
  outlet := driveSolenoid_lawful t _ h.outlet
  integrator := h.integrator

theorem integratorRange_zero : integratorMin ≤ 0 ∧ (0 : Int) ≤ integratorMax := by
  simp [integratorMin, integratorMax]

theorem settlePattern_sound (h : c.Sound live) (m : Mode) (t : Time) : (settlePattern live m t c).Sound live := by
  unfold settlePattern
  split
  · exact applyPattern_sound (h.of_frame (d := endEpisode c) rfl rfl rfl h.integrator) t _
  · split
    · exact h
    · exact h.of_frame rfl rfl rfl integratorRange_zero

/-- Once the pattern is settled, mode and phase agree with it (R94, R96). -/
theorem settlePattern_agrees (live : Bool) (m : Mode) (t : Time) (c : DriverChan) : (settlePattern live m t c).Agrees m := by
  obtain ⟨hphase, -, htest, -⟩ := settlePattern_frame live m t c
  rw [DriverChan.Agrees, hphase, htest]
  cases hnamed : namedPattern m c.phase c.testPattern with
  | some p =>
    rw [settlePattern_named hnamed]
    exact ⟨fun q hq => ⟨Option.some.inj hq, rfl⟩, nofun⟩
  | none =>
    refine ⟨nofun, fun _ => ?_⟩
    by_cases htracking : c.tracking = true
    · simp [settlePattern, hnamed, htracking]
    · rw [settlePattern_begins hnamed (by simpa using htracking)]
      rfl

theorem settlePattern_lawful (h : c.Sound live) (m : Mode) (t : Time) : (settlePattern live m t c).lawful live m :=
  (DriverChan.lawful_iff _ _ _).2 ⟨settlePattern_sound h m t, settlePattern_agrees live m t c⟩

/-- A change that leaves phase, test pattern, pattern and tracking leaves their agreement. -/
theorem DriverChan.Agrees.of_frame {m : Mode} {d : DriverChan} (h : c.Agrees m) (hphase : d.phase = c.phase)
    (htest : d.testPattern = c.testPattern) (hpattern : d.pattern = c.pattern) (htracking : d.tracking = c.tracking) :
    d.Agrees m := by
  rwa [DriverChan.Agrees, hphase, htest, hpattern, htracking]

/-- While a channel tracks, no pattern is named, so that tracking may set any (R94). -/
theorem DriverChan.Agrees.of_tracking {m : Mode} {d : DriverChan} (h : c.Agrees m) (ht : c.tracking = true)
    (hphase : d.phase = c.phase) (htest : d.testPattern = c.testPattern) (htracking : d.tracking = true) : d.Agrees m := by
  obtain ⟨hnamed, -⟩ := h
  rw [DriverChan.Agrees, hphase, htest]
  refine ⟨fun p hp => ?_, fun _ => htracking⟩
  obtain ⟨-, hfalse⟩ := hnamed p hp
  cases ht.symm.trans hfalse

/-! ## The commands of the driver, channel by channel -/

/-- A change of a lawful channel that its law does not read. -/
theorem DriverChan.lawful.of_frame {m : Mode} {d : DriverChan} (h : c.lawful live m) (hphase : d.phase = c.phase)
    (htest : d.testPattern = c.testPattern) (hpattern : d.pattern = c.pattern) (htracking : d.tracking = c.tracking)
    (hin : d.inlet = c.inlet) (hout : d.outlet = c.outlet) (hintegrator : d.integrator = c.integrator) :
    d.lawful live m :=
  (DriverChan.lawful_iff _ _ _).2 ⟨h.sound.of_frame hpattern hin hout (hintegrator ▸ h.sound.integrator),
    h.agrees.of_frame hphase htest hpattern htracking⟩

/-- An INACTIVE channel stands in PASS with both solenoids off, so its law does not ask which solenoids are live (R93,
R94). -/
theorem DriverChan.lawful.of_inactive {m : Mode} (live' : Bool) (h : c.lawful live m) (hphase : c.phase = .inactive) :
    c.lawful live' m := by
  have hnamed : namedPattern m c.phase c.testPattern = some .pass := by
    rw [hphase]
    unfold namedPattern
    split <;> rfl
  obtain ⟨hpass, -⟩ : c.pattern = .pass ∧ c.tracking = false := h.agrees.1 _ hnamed
  refine (DriverChan.lawful_iff _ _ _).2 ⟨⟨?_, ?_, h.sound.inlet, h.sound.outlet, h.sound.integrator⟩, h.agrees⟩
  · rw [h.sound.inletDrive, hpass]
    simp [inletOn]
  · rw [h.sound.outletDrive, hpass]
    simp [outletOn, inletOn]

theorem takePhase_lawful {m : Mode} (h : c.lawful live m) (t : Time) (p : Phase) (cap : Nat) :
    (takePhase live m t p cap c).lawful live m := by
  by_cases hp : p = c.phase
  · rw [takePhase_of_same hp]
    exact h.of_frame rfl rfl rfl rfl rfl rfl rfl
  · rw [takePhase_of_ne hp]
    have hleft : (leavePhase c).Sound live := by
      unfold leavePhase
      split
      · exact h.sound.of_frame rfl rfl rfl h.sound.integrator
      · exact h.sound
    exact settlePattern_lawful
      (hleft.of_frame (d := handedPhase p cap (leavePhase c)) rfl rfl rfl hleft.integrator) m t

/-- The integrator takes the sum, held to its bounds, and a bound reached sets its two marks (R99). -/
theorem integrate_eq (ki : Nat) (e : Int) (c : DriverChan) {i : Int}
    (hi : i = max integratorMin (min integratorMax (c.integrator + (ki : Int) * e))) : integrate ki e c =
      { c with integrator := i
               windUp := c.windUp || decide (i ≠ c.integrator + (ki : Int) * e)
               woundUp := c.woundUp || decide (i ≠ c.integrator + (ki : Int) * e) } := by
  unfold integrate
  dsimp only
  generalize c.integrator + (ki : Int) * e = sum at hi ⊢
  unfold integratorMin integratorMax at *
  split
  · obtain ⟨rfl, hne⟩ : i = 2147483647 ∧ i ≠ sum := by omega
    simp [hne]
  · split
    · obtain ⟨rfl, hne⟩ : i = -2147483648 ∧ i ≠ sum := by omega
      simp [hne]
    · obtain rfl : i = sum := by omega
      simp

theorem integrate_sound (ki : Nat) (e : Int) (h : c.Sound live) : (integrate ki e c).Sound live := by
  rw [integrate_eq ki e c rfl]
  refine h.of_frame rfl rfl rfl ?_
  dsimp only [integratorMin, integratorMax]
  omega

/-- The dwell either lets a choice through whole or leaves the channel as it is (R101). -/
theorem applyChoice_cases (live : Bool) (t : Time) (p : Pattern) (c : DriverChan) :
    applyChoice live t p c = c ∨ applyChoice live t p c = { applyPattern live t p c with dwellStart := some t } := by
  unfold applyChoice
  split
  · exact .inl rfl
  · split
    · exact .inr rfl
    · exact .inl rfl

theorem applyChoice_sound (h : c.Sound live) (t : Time) (p : Pattern) : (applyChoice live t p c).Sound live := by
  rcases applyChoice_cases live t p c with e | e
  · rwa [e]
  · rw [e]
    exact (applyPattern_sound h t p).of_frame rfl rfl rfl h.integrator

theorem trackSample_frame (q : Params) (live low : Bool) (t : Time) (pc pd : Nat) (c : DriverChan) :
    (trackSample q live low t pc pd c).phase = c.phase ∧ (trackSample q live low t pc pd c).testPattern = c.testPattern
      ∧ (trackSample q live low t pc pd c).tracking = c.tracking := by
  unfold trackSample superviseRun
  dsimp only
  generalize choosePattern _ _ _ = p
  rw [integrate_eq q.ki _ c rfl]
  rcases applyChoice_cases live t p _ with e | e
  · rw [e]
    exact ⟨rfl, rfl, rfl⟩
  · rw [e]
    exact ⟨rfl, rfl, rfl⟩

theorem trackSample_lawful {m : Mode} (h : c.lawful live m) (ht : c.tracking = true) (q : Params) (low : Bool) (t : Time)
    (pc pd : Nat) : (trackSample q live low t pc pd c).lawful live m := by
  obtain ⟨hphase, htest, htracking⟩ := trackSample_frame q live low t pc pd c
  refine (DriverChan.lawful_iff _ _ _).2 ⟨?_, h.agrees.of_tracking ht hphase htest (htracking.trans ht)⟩
  unfold trackSample
  dsimp only
  generalize choosePattern _ _ _ = p
  have hchoice := applyChoice_sound (integrate_sound q.ki ((min c.cap pd : Nat) - (pc : Int)) h.sound) t p
  exact hchoice.of_frame rfl rfl rfl hchoice.integrator

theorem sagChannel_lawful {m : Mode} (h : c.lawful live m) (t : Time) : (sagChannel live t c).lawful live m := by
  unfold sagChannel
  split
  · next hsag =>
    obtain ⟨ht, -⟩ : c.tracking = true ∧ c.pattern = .exhaust := by simpa using hsag
    exact (DriverChan.lawful_iff _ _ _).2
      ⟨(applyPattern_sound h.sound t .hold).of_frame rfl rfl rfl h.sound.integrator, h.agrees.of_tracking ht rfl rfl ht⟩
  · exact h

/-- A short found takes the shorted solenoid off, and an inlet takes the outlet off with it, as its pattern now has it (R93,
R106). -/
theorem shortChannel_lawful {m : Mode} (h : c.lawful live m) (t : Time) (v : Valve) :
    (shortChannel t v c).lawful live m := by
  refine (DriverChan.lawful_iff _ _ _).2 ⟨?_, ?_⟩
  · cases v with
    | inlet =>
      refine ⟨?_, ?_, shortSolenoid_lawful h.sound.inlet, driveSolenoid_lawful t false h.sound.outlet, h.sound.integrator⟩
      · simp [shortChannel, shortSolenoid, inletOn]
      · simp [shortChannel, shortSolenoid, outletOn, inletOn]
    | outlet =>
      refine ⟨h.sound.inletDrive, ?_, h.sound.inlet, shortSolenoid_lawful h.sound.outlet, h.sound.integrator⟩
      simp [shortChannel, shortSolenoid, outletOn]
  · cases v <;> exact h.agrees.of_frame rfl rfl rfl rfl

theorem solenoid_lawful {m : Mode} (h : c.lawful live m) (v : Valve) : (solenoid c v).lawful := by
  cases v
  · exact h.sound.inlet
  · exact h.sound.outlet

/-- A solenoid replaced by a lawful one of the same drive and short lock. -/
theorem setSolenoid_lawful {m : Mode} (h : c.lawful live m) {v : Valve} {x : Solenoid} (hx : x.lawful)
    (hon : x.on = (solenoid c v).on) (hshort : x.shortLock = (solenoid c v).shortLock) :
    (setSolenoid c v x).lawful live m := by
  refine (DriverChan.lawful_iff _ _ _).2 ⟨?_, ?_⟩
  · cases v with
    | inlet =>
      refine ⟨?_, ?_, hx, h.sound.outlet, h.sound.integrator⟩
      · show x.on = inletOn live c.pattern { c with inlet := x }
        rw [hon, inletOn, hshort]
        exact h.sound.inletDrive
      · show c.outlet.on = outletOn live c.pattern { c with inlet := x }
        rw [outletOn, inletOn, hshort]
        exact h.sound.outletDrive
    | outlet =>
      refine ⟨h.sound.inletDrive, ?_, h.sound.inlet, hx, h.sound.integrator⟩
      show x.on = outletOn live c.pattern { c with outlet := x }
      rw [hon, outletOn, hshort]
      exact h.sound.outletDrive
  · cases v <;> exact h.agrees.of_frame rfl rfl rfl rfl

theorem startChecks_lawful {m : Mode} (h : c.lawful live m) (used : Bool) (t : Time) :
    (startChecks used t c).lawful live m := by
  unfold startChecks
  split
  · exact setSolenoid_lawful (v := .outlet) (x := startCheck t c.outlet)
      (setSolenoid_lawful (v := .inlet) (x := startCheck t c.inlet) h (startCheck_lawful t (solenoid_lawful h .inlet)) rfl rfl)
      (startCheck_lawful t (solenoid_lawful h .outlet)) rfl rfl
  · exact h

end

/-! ## The law of the driver -/

theorem State.driveMode_driverChan (s : State) (m : Mode) (c : Channel) :
    (s.driveMode m).driverChan c = settlePattern (s.live c) m s.now (s.driverChan c) := by
  cases c <;> rfl

theorem State.driveSag_driverChan (s : State) (c : Channel) :
    s.driveSag.driverChan c = sagChannel (s.live c) s.now (s.driverChan c) := by
  cases c <;> rfl

section
variable {s t : State} (hs : s.DriveLaw)
include hs

/-- A command that may move the stage, but not back into reset, and leaves the driver and the arrangement. -/
theorem State.DriveLaw.of_stage (hdriver : t.driver = s.driver) (harrangement : t.arrangement = s.arrangement)
    (hstage : t.startup.stage = .heldInReset → s.startup.stage = .heldInReset) : t.DriveLaw := by
  obtain ⟨hlaw, hreset⟩ := hs
  refine ⟨fun c => ?_, fun h c => ?_⟩
  · rw [State.driverChan_eq hdriver, State.live, harrangement, hdriver]
    exact hlaw c
  · rw [State.driverChan_eq hdriver]
    exact hreset (hstage h) c

/-- A command that writes neither the driver nor the start-up unit. -/
theorem State.DriveLaw.of_frame (hdriver : t.driver = s.driver) (hstartup : t.startup = s.startup) : t.DriveLaw :=
  hs.of_stage hdriver (State.arrangement_eq hstartup) (fun h => hstartup ▸ h)

/-- A command that writes the driver alone, and no phase of it. -/
theorem State.DriveLaw.of_chans (hlaw : ∀ c, (t.driverChan c).lawful (s.live c) t.driver.mode)
    (hphase : ∀ c, (t.driverChan c).phase = (s.driverChan c).phase) (hstartup : t.startup = s.startup) : t.DriveLaw := by
  obtain ⟨-, hreset⟩ := hs
  refine ⟨fun c => ?_, fun h c => ?_⟩
  · rw [State.live_eq hstartup]
    exact hlaw c
  · rw [hphase]
    exact hreset (hstartup ▸ h) c

theorem State.setDriverChan_driveLaw {c : Channel} {d : DriverChan} (hd : d.lawful (s.live c) s.driver.mode)
    (hphase : s.startup.stage = .heldInReset → d.phase = .inactive) : (s.setDriverChan c d).DriveLaw := by
  obtain ⟨hlaw, hreset⟩ := hs
  have hchan : ∀ c', (s.setDriverChan c d).driverChan c' = if c' = c then d else s.driverChan c' := by
    intro c'
    rw [State.driverChan, State.setDriverChan_driver]
    split
    · next h => rw [h, chanGet_chanSet]
    · next h => exact chanGet_chanSet_of_ne _ _ h
  refine ⟨fun c' => ?_, fun h c' => ?_⟩
  · rw [hchan]
    split
    · next h =>
      subst h
      exact hd
    · exact hlaw c'
  · rw [hchan]
    split
    · exact hphase h
    · exact hreset h c'

theorem State.drivePhase_driveLaw (c : Channel) (p : Phase) (cap : Nat) : (s.drivePhase c p cap).DriveLaw := by
  unfold State.drivePhase
  split
  · next hbegun =>
    refine State.setDriverChan_driveLaw hs (takePhase_lawful (hs.1 c) _ _ _) fun hheld => ?_
    simp [State.begun, hheld] at hbegun
  · exact hs

theorem State.driveCap_driveLaw (c : Channel) (cap : Nat) :
    (s.setDriverChan c { s.driverChan c with cap := cap }).DriveLaw :=
  State.setDriverChan_driveLaw hs ((hs.1 c).of_frame rfl rfl rfl rfl rfl rfl rfl) (fun h => hs.2 h c)

theorem State.driveMode_driveLaw (m : Mode) : (s.driveMode m).DriveLaw := by
  refine hs.of_chans (fun c => ?_) (fun c => ?_) rfl
  · rw [State.driveMode_driverChan]
    exact settlePattern_lawful (hs.1 c).sound m s.now
  · rw [State.driveMode_driverChan]
    exact (settlePattern_frame _ _ _ _).1

theorem State.driveSample_driveLaw (c : Channel) (pc : Nat) (sensor : SensorState) (pd : Nat) :
    (s.driveSample c pc sensor pd).DriveLaw := by
  unfold State.driveSample
  dsimp only
  split
  · next h =>
    obtain ⟨ht, -⟩ : (s.driverChan c).tracking = true ∧ sensor = .good := by simpa using h
    have hlaw := trackSample_lawful (hs.1 c) ht s.params (supplyLow s.supply.state) s.now pc pd
    obtain ⟨hphase, -⟩ := trackSample_frame s.params (s.live c) (supplyLow s.supply.state) s.now pc pd (s.driverChan c)
    split
    · have hspent : (s.setDriverChan c { trackSample s.params (s.live c) (supplyLow s.supply.state) s.now pc pd
          (s.driverChan c) with spent := true }).DriveLaw :=
        State.setDriverChan_driveLaw hs (hlaw.of_frame rfl rfl rfl rfl rfl rfl rfl) fun h => hphase.trans (hs.2 h c)
      exact hspent.of_frame rfl rfl
    · exact State.setDriverChan_driveLaw hs hlaw fun h => hphase.trans (hs.2 h c)
  · exact hs

theorem State.driveSag_driveLaw : s.driveSag.DriveLaw := by
  refine hs.of_chans (fun c => ?_) (fun c => ?_) rfl
  · rw [State.driveSag_driverChan]
    exact sagChannel_lawful (hs.1 c) s.now
  · rw [State.driveSag_driverChan]
    unfold sagChannel
    split <;> rfl

/-- A test step kept outside TEST is not the pattern of any phase (R105). -/
theorem State.driveTest_driveLaw (c : Channel) (p : Pattern) : (s.driveTest c p).DriveLaw := by
  have hsound := (hs.1 c).sound
  obtain ⟨hnamed, htracked⟩ := (hs.1 c).agrees
  have hsound' : DriverChan.Sound (s.live c) { s.driverChan c with testPattern := p } :=
    hsound.of_frame rfl rfl rfl hsound.integrator
  refine State.setDriverChan_driveLaw hs ?_ fun h => ?_
  · split
    · exact settlePattern_lawful hsound' _ _
    · next htest =>
      have hsame : namedPattern s.driver.mode (s.driverChan c).phase p
          = namedPattern s.driver.mode (s.driverChan c).phase (s.driverChan c).testPattern :=
        namedPattern_of_ne_test htest ..
      refine (DriverChan.lawful_iff _ _ _).2 ⟨hsound', ?_, ?_⟩
      · exact fun q hq => hnamed q (hsame ▸ hq)
      · exact fun hnone => htracked (hsame ▸ hnone)
  · have hphase := hs.2 h c
    rw [if_neg (by simp [hphase])]
    exact hphase

theorem State.takeOverCurrent_driveLaw (m : Time) (c : Channel) (v : Valve) : (s.takeOverCurrent m c v).DriveLaw := by
  unfold State.takeOverCurrent
  split
  · refine (State.setDriverChan_driveLaw hs (shortChannel_lawful (hs.1 c) m v) fun h => ?_).of_frame rfl rfl
    cases v <;> exact hs.2 h c
  · exact hs

theorem State.takeCheck_driveLaw (m : Time) (c : Channel) (v : Valve) (milliamps : Nat) (loadFound : Bool) :
    (s.takeCheck m c v milliamps loadFound).DriveLaw := by
  unfold State.takeCheck
  dsimp only
  split
  · next hdue =>
    have hset : ∀ fails,
        (s.setDriverChan c (setSolenoid (s.driverChan c) v (checkedSolenoid m fails (solenoid (s.driverChan c) v)))).DriveLaw :=
      fun fails => State.setDriverChan_driveLaw hs
        (setSolenoid_lawful (hs.1 c) (checkedSolenoid_lawful fails (solenoid_lawful (hs.1 c) v) hdue) rfl rfl)
        fun h => by cases v <;> exact hs.2 h c
    split
    · exact (hset _).of_frame rfl rfl
    · exact hset _
  · exact hs

/-! ## The start (R112, R178, R180, R184, R185) -/

/-- The straps settle which solenoids are live while both channels are INACTIVE (R93, R180). -/
theorem State.beginStart_driveLaw (x : Straps) : (s.beginStart x).DriveLaw := by
  by_cases hstage : s.startup.stage = .heldInReset
  · obtain ⟨hlaw, hreset⟩ := hs
    rw [State.beginStart, if_pos hstage]
    exact ⟨fun c => (hlaw c).of_inactive _ (hreset hstage c), nofun⟩
  · rw [s.beginStart_void x hstage]
    exact hs

theorem State.completeRead_driveLaw (m : Time) (bs : List Byte) : (s.completeRead m bs).DriveLaw := by
  by_cases hstage : s.startup.stage = .reading
  · have hchan : ∀ c, (s.completeRead m bs).driverChan c = startChecks (s.live c) m (s.driverChan c) := by
      intro c
      rw [State.driverChan, State.completeRead_driver hstage]
      cases c <;> rfl
    have hmode : (s.completeRead m bs).driver.mode = s.driver.mode := by rw [State.completeRead_driver hstage]
    refine ⟨fun c => ?_, fun hheld => ?_⟩
    · have hlive : (s.completeRead m bs).live c = s.live c := by
        rw [s.completeRead_reading m bs hstage]
        rfl
      rw [hchan, hmode, hlive]
      exact startChecks_lawful (hs.1 c) _ m
    · rw [s.completeRead_reading m bs hstage] at hheld
      cases hheld
  · rw [s.completeRead_void m bs hstage]
    exact hs

theorem State.endListen_driveLaw (m : Time) : (s.endListen m).DriveLaw := by
  unfold State.endListen
  split
  · have hraised : s.raiseConfigBad.DriveLaw := hs.of_frame (by simp) (by simp)
    exact hraised.of_stage rfl rfl nofun
  · exact hs

theorem State.endStarting_driveLaw (m : Time) : (s.endStarting m).DriveLaw := by
  unfold State.endStarting
  split
  · exact hs.of_stage rfl rfl nofun
  · exact hs

end

/-! ## Every command keeps the law of the driver -/

/-- Both resets leave the driver and the start-up unit at their reset values (R112, R178, R179). -/
theorem State.powerOn_driveLaw (s : State) : s.powerOn.DriveLaw := State.reset_driveLaw.of_frame rfl rfl

theorem State.warmRestart_driveLaw (s : State) : s.warmRestart.DriveLaw := State.reset_driveLaw.of_frame rfl rfl

theorem exec_reset_driveLaw {c : Instr} {s t : State} (hreset : isResetCommand c = true) (hs : s.DriveLaw)
    (h : exec c s = .next t) : t.DriveLaw := by
  cases c
  case powerOnReset => exact Host.Outcome.next.inj h ▸ s.powerOn_driveLaw
  case brownOutExpiry m =>
    obtain rfl := Host.Outcome.next.inj h
    unfold State.brownOut
    split
    · exact State.warmRestart_driveLaw _
    · exact hs.of_frame rfl rfl
  case replySuccessNotice | restartTimerExpiry =>
    obtain rfl := Host.Outcome.next.inj h
    split
    · exact s.warmRestart_driveLaw
    · exact hs.of_frame rfl rfl
  all_goals cases hreset

theorem exec_keeps_driveLaw {c : Instr} {s t : State} (hs : s.DriveLaw) (h : exec c s = .next t) : t.DriveLaw := by
  by_cases hreset : isResetCommand c = true
  · exact exec_reset_driveLaw hreset hs h
  have htake : ∀ d, (s.take d).DriveLaw := fun d => hs.of_frame rfl rfl
  have hstamp : ∀ m, (s.stamp m).DriveLaw := fun m => hs.of_frame rfl rfl
  cases c
  case powerOnReset | brownOutExpiry | replySuccessNotice | restartTimerExpiry => exact absurd rfl hreset
  all_goals obtain rfl := Host.Outcome.next.inj h
  case phaseHandoff c p cap => exact State.takeInTurn_of hs (State.drivePhase_driveLaw (htake _) c p cap)
  case capStepHandoff c cap => exact State.takeInTurn_of hs (State.driveCap_driveLaw (htake _) c cap)
  case modeChangeToDriver m => exact State.takeInTurn_of hs (State.driveMode_driveLaw (htake _) m)
  case chamberSample c pc sensor pd => exact State.driveSample_driveLaw (htake _) c pc sensor pd
  case sagEntry => exact State.driveSag_driveLaw (htake _)
  case testStep c p => exact State.driveTest_driveLaw (htake _) c p
  case overCurrent m c v => exact State.takeOverCurrent_driveLaw (hstamp m) m c v
  case checkTimerExpiry m c v i l => exact State.takeCheck_driveLaw (hstamp m) m c v i l
  case startSequence x => exact State.beginStart_driveLaw hs x
  case readCompletion m bs => exact State.completeRead_driveLaw (hstamp m) m bs
  case listenExpiry m => exact State.endListen_driveLaw (hstamp m) m
  case startingExpiry m => exact State.endStarting_driveLaw (hstamp m) m
  case alertHanded k ch v =>
    refine State.takeInTurn_of hs ?_
    split <;> exact hs.of_frame (by simp) (by simp)
  case samplePeriodChange | lanePhaseCopy | quietReportChange | abortEvent =>
    exact State.takeInTurn_of hs (hs.of_frame (by simp) (by simp))
  case faultNotice | causeCleared | endOfStarting | quietEntry | quietExit | serviceEntry | serviceExit =>
    split <;> exact hs.of_frame (by simp) (by simp)
  all_goals exact hs.of_frame (by simp) (by simp)

/-- Settles O3: every command keeps the law channel by channel; those that settle a pattern make mode and phase agree with
it anew, and the straps choose the live solenoids while both channels are INACTIVE. -/
theorem stepKeepsDriveLaw : Obligations.StepKeepsDriveLaw := by
  intro s t hs h
  unfold step at h
  split at h
  · obtain rfl := Host.Outcome.next.inj h
    exact hs
  · refine exec_keeps_driveLaw ?_ h
    exact hs.of_frame rfl rfl

end Sys2Proof.Machine

namespace Sys2Proof.Machine

/-! ## MODE_CHANGE_TO_DRIVER and TEST_STEP (R94, R96, R97, R105) -/

/-- An episode in progress goes on where no pattern is named (R95, R97). -/
theorem settlePattern_goesOn {live : Bool} {m : Mode} {t : Time} {c : DriverChan}
    (h : namedPattern m c.phase c.testPattern = none) (ht : c.tracking = true) : settlePattern live m t c = c := by
  simp [settlePattern, h, ht]

/-- A named pattern stands after the settling and drives the solenoids, and any episode has ended (R93, R94, R97). -/
theorem settlePattern_named_drives {live : Bool} {m : Mode} {t : Time} {c : DriverChan} {pat : Pattern}
    (h : namedPattern m c.phase c.testPattern = some pat) :
    (settlePattern live m t c).pattern = pat ∧ (settlePattern live m t c).tracking = false
      ∧ (settlePattern live m t c).inlet.on = inletOn live pat c
      ∧ (settlePattern live m t c).outlet.on = outletOn live pat c := by
  rw [settlePattern_named h]
  exact ⟨rfl, rfl, (driveSolenoid_spec _ _ _).1, (driveSolenoid_spec _ _ _).1⟩

/-- A channel after a test step: applied in TEST, kept otherwise (R105). -/
def testStepped (live : Bool) (m : Mode) (t : Time) (p : Pattern) (c : DriverChan) : DriverChan :=
  if c.phase = .test then settlePattern live m t { c with testPattern := p } else { c with testPattern := p }

theorem exec_testStep (c : Channel) (p : Pattern) (s : State) : exec (.testStep c p) s =
    .next ((s.take (.testStep c p)).setDriverChan c
      (testStepped (s.live c) s.driver.mode s.now p (chanGet s.driver.chans c))) := rfl

section
variable {live : Bool} {m : Mode} {t : Time} {p : Pattern} {c : DriverChan}

theorem testStepped_kept (h : c.phase ≠ .test) : testStepped live m t p c = { c with testPattern := p } := if_neg h

theorem testStepped_testPattern : (testStepped live m t p c).testPattern = p := by
  unfold testStepped
  split
  · obtain ⟨-, -, htest, -⟩ := settlePattern_frame live m t { c with testPattern := p }
    exact htest
  · rfl

/-- In TEST, where the phase decides, the step's pattern drives the solenoids at once (R93, R105). -/
theorem testStepped_drives (h : c.phase = .test) (hm : m ∈ [Mode.active, .quiet, .service]) :
    (testStepped live m t p c).pattern = p ∧ (testStepped live m t p c).inlet.on = inletOn live p c
      ∧ (testStepped live m t p c).outlet.on = outletOn live p c := by
  have hnamed : namedPattern m c.phase p = some p := namedPattern_of_phase hm (by simp [h])
  obtain ⟨hpattern, -, hin, hout⟩ :=
    settlePattern_named_drives (live := live) (t := t) (c := { c with testPattern := p }) hnamed
  rw [testStepped, if_pos h]
  exact ⟨hpattern, hin, hout⟩

end

/-- Settles O41: a mode change by whether mode and phase name a pattern, and a test step by whether the phase is TEST. -/
theorem modeChangeSettlesValves : Obligations.ModeChangeSettlesValves := by
  rintro m ch pat d s rfl hturn
  refine ⟨⟨((s.take (.modeChangeToDriver m)).driveMode m).driver.chans,
    congrArg Host.Outcome.next (State.takeInTurn_of_inTurn hturn _), ?_⟩,
    testStepped (s.live ch) s.driver.mode s.now pat (chanGet s.driver.chans ch), exec_testStep ch pat s,
    testStepped_testPattern, testStepped_kept, fun hp hm => ?_⟩
  · have hchan : chanGet ((s.take (.modeChangeToDriver m)).driveMode m).driver.chans ch
        = settlePattern (s.live ch) m s.now (chanGet s.driver.chans ch) := State.driveMode_driverChan _ m ch
    rw [hchan]
    generalize chanGet s.driver.chans ch = d
    obtain ⟨hphase, hcap, -⟩ := settlePattern_frame (s.live ch) m s.now d
    refine ⟨fun hm => ?_, fun hm => ⟨fun hp => ?_, fun hp => ?_, fun hp ht => ?_, fun hp ht => ?_⟩⟩
    · obtain ⟨hpattern, htracking, hin, hout⟩ :=
        settlePattern_named_drives (live := s.live ch) (t := s.now) (namedPattern_of_mode hm d.phase d.testPattern)
      exact ⟨hpattern, hin.trans (by simp [inletOn]), hout.trans (by simp [outletOn]), htracking, hphase, hcap⟩
    · exact (settlePattern_named_drives (namedPattern_of_phase hm (by rcases hp with h | h <;> simp [h]))).1
    · exact (settlePattern_named_drives (namedPattern_of_phase hm (by simp [hp]))).1
    · exact settlePattern_begins (namedPattern_tracked hm hp _) ht
    · exact settlePattern_goesOn (namedPattern_tracked hm hp _) ht
  · obtain ⟨hpattern, hin, hout⟩ := testStepped_drives (live := s.live ch) (t := s.now) (p := pat) hp
      (show s.driver.mode ∈ [Mode.active, .quiet, .service] by simp [hm])
    rw [hin, hout, inletOn_iff, outletOn_iff, State.live_iff]
    exact ⟨hpattern, Iff.rfl, Iff.rfl⟩

end Sys2Proof.Machine

namespace Sys2Proof.Machine

/-! ## CHAMBER_SAMPLE (R98 to R104) -/

/-- The choice from u, SAG and UNDER told from NORMAL (R100, R102). -/
theorem choosePattern_eq (uOn : Nat) (x : SupplyState) (u : Int) : choosePattern uOn (supplyLow x) u =
    if (uOn : Int) ≤ u then .pass else if u ≤ -(uOn : Int) ∧ x = .normal then .exhaust else .hold := by
  unfold choosePattern
  split
  · rfl
  · by_cases hu : u ≤ -(uOn : Int)
    · cases x <;> simp [supplyLow, hu]
    · simp [hu]

section
variable {live : Bool} {t : Time} {p : Pattern} {c : DriverChan}

/-- With the dwell absent or over the choice stands afterwards (R101). -/
theorem applyChoice_free (h : c.dwellStart = none ∨ aged c.dwellStart t 3000 = true) :
    (applyChoice live t p c).pattern = p := by
  unfold applyChoice
  split
  · next hp => exact hp.symm
  · rw [if_pos (by simpa using h)]
    rfl

/-- Within the dwell a choice changes nothing (R101). -/
theorem applyChoice_dwells {t0 : Time} (h : c.dwellStart = some t0) (hage : (t - t0).toNat < 3000) :
    (applyChoice live t p c).pattern = c.pattern ∧ (applyChoice live t p c).dwellStart = some t0 := by
  have hyoung : ¬ aged c.dwellStart t 3000 = true := not_aged_of_young fun t1 h1 => by
    obtain rfl := Option.some.inj (h.symm.trans h1)
    exact hage
  unfold applyChoice
  split
  · exact ⟨rfl, h⟩
  · rw [if_neg (by simpa [h] using hyoung)]
    exact ⟨rfl, h⟩

/-- A choice that changes the pattern begins a dwell (R101). -/
theorem applyChoice_moves (h : (applyChoice live t p c).pattern ≠ c.pattern) :
    (applyChoice live t p c).dwellStart = some t := by
  rcases applyChoice_cases live t p c with e | e
  · exact absurd (congrArg DriverChan.pattern e) h
  · rw [e]

/-- A choice touches the pattern, the dwell and the solenoids alone (R101). -/
theorem applyChoice_frame (live : Bool) (t : Time) (p : Pattern) (c : DriverChan) :
    (applyChoice live t p c).phase = c.phase ∧ (applyChoice live t p c).cap = c.cap
      ∧ (applyChoice live t p c).tracking = c.tracking ∧ (applyChoice live t p c).integrator = c.integrator
      ∧ (applyChoice live t p c).windUp = c.windUp ∧ (applyChoice live t p c).woundUp = c.woundUp
      ∧ (applyChoice live t p c).errorRun = c.errorRun ∧ (applyChoice live t p c).warning = c.warning
      ∧ (applyChoice live t p c).spent = c.spent := by
  rcases applyChoice_cases live t p c with e | e <;> rw [e] <;> exact ⟨rfl, rfl, rfl, rfl, rfl, rfl, rfl, rfl, rfl⟩

end

/-- What a tracking sample hands on: TRACKING when it is due (R104). -/
def trackingNotices (t : Time) (c : Channel) (d : DriverChan) : List Instr :=
  if trackingDue t d then [.faultNotice (.channelFault .tracking c false)] else []

/-- A sample of a tracking channel with a good sensor: the channel after it, and TRACKING handed once when due (R98, R104). -/
theorem exec_chamberSample_tracking {s : State} {c : Channel} {d : DriverChan} {pc pd : Nat}
    (ht : (chanGet s.driver.chans c).tracking = true)
    (hd : d = trackSample s.params (s.live c) (supplyLow s.supply.state) s.now pc pd (chanGet s.driver.chans c)) :
    exec (.chamberSample c pc .good pd) s = .next
      { s with handed := s.handed.erase (.chamberSample c pc .good pd) ++ trackingNotices s.now c d
               driver := { s.driver with
                 chans := chanSet s.driver.chans c { d with spent := d.spent || trackingDue s.now d } } } := by
  have hsample : (s.take (.chamberSample c pc .good pd)).driveSample c pc .good pd =
      if trackingDue s.now d then
        ((s.take (.chamberSample c pc .good pd)).setDriverChan c { d with spent := true }).hand
          [.faultNotice (.channelFault .tracking c false)]
      else (s.take (.chamberSample c pc .good pd)).setDriverChan c d := by
    rw [hd]
    exact if_pos (by simp [State.driverChan, ht])
  refine congrArg Host.Outcome.next (hsample.trans ?_)
  cases hdue : trackingDue s.now d
  · simp [trackingNotices, hdue, State.setDriverChan, State.take]
  · simp [trackingNotices, hdue, State.setDriverChan, State.take, State.hand]

/-- A channel that does not track, or whose sensor has failed, makes no decision (R98). -/
theorem exec_chamberSample_void {s : State} {c : Channel} {sensor : SensorState}
    (h : (chanGet s.driver.chans c).tracking = false ∨ sensor = .failed) (pc pd : Nat) :
    exec (.chamberSample c pc sensor pd) s = .next (s.take (.chamberSample c pc sensor pd)) := by
  refine congrArg Host.Outcome.next (if_neg ?_)
  rcases h with h | rfl
  · simp [State.driverChan, h]
  · simp

/-- The error run of a sample: begun or going on above 300 mbar, absent otherwise (R103). -/
theorem superviseRun_errorRun (t : Time) (e : Int) (c : DriverChan) : (superviseRun t e c).errorRun =
    if 300 < e.natAbs then some (c.errorRun.getD t) else none :=
  runWhile_decide _ _ _

/-- An error within 300 mbar ends the error run, and neither warns nor raises TRACKING (R103, R104). -/
theorem superviseRun_calm {t : Time} {e : Int} {c : DriverChan} (ch : Channel) (h : e.natAbs ≤ 300) :
    (superviseRun t e c).errorRun = none ∧ (superviseRun t e c).warning = c.warning
      ∧ trackingNotices t ch (superviseRun t e c) = [] := by
  have hrun : (superviseRun t e c).errorRun = none := (superviseRun_errorRun t e c).trans (if_neg (by omega))
  refine ⟨hrun, ?_, ?_⟩
  · show (c.warning || aged (superviseRun t e c).errorRun t 300000) = c.warning
    simp [hrun, aged]
  · simp [trackingNotices, trackingDue, hrun, aged]

/-- An error above 300 mbar by the age of its run: the warning at 300 ms, TRACKING at 1000 ms once (R103, R104). -/
theorem superviseRun_above {t t0 : Time} {e : Int} {c : DriverChan} (ch : Channel) (h : 300 < e.natAbs)
    (h0 : t0 = c.errorRun.getD t) :
    (superviseRun t e c).errorRun = some t0
      ∧ (300000 ≤ elapsed t t0 → (superviseRun t e c).warning = true)
      ∧ (1000000 ≤ elapsed t t0 → c.spent = false → trackingDue t (superviseRun t e c) = true
        ∧ trackingNotices t ch (superviseRun t e c) = [.faultNotice (.channelFault .tracking ch false)])
      ∧ (elapsed t t0 < 1000000 ∨ c.spent = true → trackingDue t (superviseRun t e c) = false
        ∧ trackingNotices t ch (superviseRun t e c) = []) := by
  have hrun : (superviseRun t e c).errorRun = some t0 := by rw [superviseRun_errorRun, if_pos h, h0]
  have hdue : trackingDue t (superviseRun t e c) = (decide (1000000 ≤ elapsed t t0) && !c.spent) := by
    rw [trackingDue, hrun]
    rfl
  refine ⟨hrun, fun hage => ?_, fun hage hspent => ?_, fun hnot => ?_⟩
  · show (c.warning || aged (superviseRun t e c).errorRun t 300000) = true
    simp [hrun, aged, hage]
  · simp [trackingNotices, hdue, hage, hspent]
  · have hfalse : trackingDue t (superviseRun t e c) = false := by
      rw [hdue]
      rcases hnot with hage | hspent
      · simp [hage]
      · simp [hspent]
    simp [trackingNotices, hfalse]

/-- How integration and choice leave a tracking channel `c`: the integrator at `i` with its marks set where `i` is not the
whole sum, the choice applied under the dwell, and the error run not yet judged (R99, R101). -/
structure DriverChan.Decided (t : Time) (choice : Pattern) (i sum : Int) (c d : DriverChan) : Prop where
  stands : d.phase = c.phase ∧ d.cap = c.cap ∧ d.tracking = c.tracking
  unjudged : d.errorRun = c.errorRun ∧ d.warning = c.warning ∧ d.spent = c.spent
  integrator : d.integrator = i
  marks : d.windUp = (c.windUp || decide (i ≠ sum)) ∧ d.woundUp = (c.woundUp || decide (i ≠ sum))
  free : c.dwellStart = none ∨ aged c.dwellStart t 3000 = true → d.pattern = choice
  dwells : ∀ t0, c.dwellStart = some t0 → (t - t0).toNat < 3000 → d.pattern = c.pattern ∧ d.dwellStart = some t0
  moves : d.pattern ≠ c.pattern → d.dwellStart = some t

/-- A tracking sample decides the channel, then judges the error run (R98 to R103). -/
theorem trackSample_decides (q : Params) (live low : Bool) (t : Time) {pc pd : Nat} {c : DriverChan} {e i : Int}
    (he : e = ((min c.cap pd : Nat) : Int) - pc)
    (hi : i = max integratorMin (min integratorMax (c.integrator + (q.ki : Int) * e))) :
    ∃ d, trackSample q live low t pc pd c = superviseRun t e d
      ∧ DriverChan.Decided t (choosePattern q.uOn low (controlValue q.kp e i)) i (c.integrator + (q.ki : Int) * e) c d := by
  refine ⟨applyChoice live t (choosePattern q.uOn low (controlValue q.kp e i)) (integrate q.ki e c), ?_, ?_⟩
  · rw [trackSample, ← he, integrate_eq q.ki e c hi]
  obtain ⟨hphase, hcap, htracking, hintegrator, hwind, hwound, hrun, hwarning, hspent⟩ :=
    applyChoice_frame live t (choosePattern q.uOn low (controlValue q.kp e i)) (integrate q.ki e c)
  rw [integrate_eq q.ki e c hi] at *
  refine ⟨⟨hphase, hcap, htracking⟩, ⟨hrun, hwarning, hspent⟩, hintegrator, ⟨hwind, hwound⟩, fun h => applyChoice_free h,
    fun t0 h hage => applyChoice_dwells h hage, fun h => applyChoice_moves h⟩

/-- Settles O42: the tracking sample by its three parts (integration, choice under the dwell, error run), the samples that
decide nothing, and the entry to SAG. -/
theorem chamberSampleTracksCap : Obligations.ChamberSampleTracksCap := by
  rintro ch pc pd d e i u choice s rfl he hi hu hchoice
  refine ⟨fun ht => ⟨_, _, exec_chamberSample_tracking ht rfl, ?_⟩, fun sensor h => exec_chamberSample_void h pc pd,
    ⟨(s.take .sagEntry).driveSag.driver.chans, rfl, ?_⟩⟩
  · obtain ⟨c, hsample, hdecided⟩ := trackSample_decides s.params (s.live ch) (supplyLow s.supply.state) s.now he hi
    rw [controlValue, ← hu, choosePattern_eq, ← hchoice] at hdecided
    obtain ⟨⟨hphase, hcap, htracking⟩, ⟨hrun, hwarning, hspent⟩, hintegrator, ⟨hwind, hwound⟩, hfree, hdwells, hmoves⟩ :=
      hdecided
    have hcalm := superviseRun_calm (t := s.now) (e := e) (c := c) ch
    have habove := fun t0 => superviseRun_above (t := s.now) (t0 := t0) (e := e) (c := c) ch
    have hspent' : (superviseRun s.now e c).spent = (chanGet s.driver.chans ch).spent := hspent
    rw [hwarning] at hcalm
    rw [hrun, hspent] at habove
    rw [hsample]
    refine ⟨hintegrator, htracking.trans ht, hphase, hcap, fun hne => ?_, fun heq => ?_, fun h => hfree (.inl h),
      fun t0 h hage => hfree (.inr ((aged_iff _ _ _).2 ⟨t0, h, hage⟩)), hdwells, hmoves, hcalm, fun t0 h h0 => ?_,
      fun h h0 => ?_⟩
    · exact ⟨hwind.trans (by simp [hne]), hwound.trans (by simp [hne])⟩
    · exact ⟨hwind.trans (by simp [heq]), hwound.trans (by simp [heq])⟩
    · obtain ⟨hold, hwarns, hdue, hnot⟩ := habove t0 h (by simp [h0])
      refine ⟨hold, hwarns, fun hage hs => ?_, fun hor => ?_⟩
      · obtain ⟨hdue, hnotices⟩ := hdue hage hs
        exact ⟨(congrArg₂ or hspent' hdue).trans (Bool.or_true _), hnotices⟩
      · obtain ⟨hdue, hnotices⟩ := hnot hor
        exact ⟨(congrArg₂ or hspent' hdue).trans (Bool.or_false _), hnotices⟩
    · obtain ⟨hbegun, -, -, hnot⟩ := habove s.now h (by simp [h0])
      obtain ⟨-, hnotices⟩ := hnot (.inl (by simp [elapsed]))
      exact ⟨hbegun, hnotices⟩
  · have hchan : chanGet (s.take .sagEntry).driveSag.driver.chans ch
        = sagChannel (s.live ch) s.now (chanGet s.driver.chans ch) := State.driveSag_driverChan _ ch
    rw [hchan, sagChannel]
    refine ⟨fun ht hp => ?_, fun h => if_neg (by simpa [imp_iff_not_or] using h)⟩
    rw [if_pos (by simp [ht, hp])]
    exact ⟨rfl, (driveSolenoid_spec _ _ _).1.trans (by simp [outletOn]), rfl⟩

end Sys2Proof.Machine

namespace Sys2Proof.Machine

/-! ## OVER_CURRENT and CHECK_TIMER_EXPIRY (R106 to R108, R110) -/

/-- A switch-off sets the check timer to 10,000 µs, unless the solenoid is short-locked; one that is off stays as it is
(R107). -/
theorem driveSolenoid_off (t : Time) (x : Solenoid) : driveSolenoid t false x =
    if x.on then { x with on := false, timer := if x.shortLock then none else some ⟨t, 10000⟩ } else x := by
  unfold driveSolenoid
  cases x.on <;> rfl

/-- An over-current on a solenoid that is on: the short, and VALVE_SHORT (R106, R110). -/
theorem exec_overCurrent_on {s : State} {c : Channel} {v : Valve} (h : (solenoid (chanGet s.driver.chans c) v).on = true)
    (m : Time) : exec (.overCurrent m c v) s = .next
      (((s.stamp m).setDriverChan c (shortChannel m v (chanGet s.driver.chans c))).hand
        [valveNotice .valveShort c (chanGet s.driver.chans c)]) :=
  congrArg Host.Outcome.next (if_pos h)

/-- An over-current on a solenoid that is off is void (log entry 25). -/
theorem exec_overCurrent_off {s : State} {c : Channel} {v : Valve} (h : (solenoid (chanGet s.driver.chans c) v).on = false)
    (m : Time) : exec (.overCurrent m c v) s = .next (s.stamp m) :=
  congrArg Host.Outcome.next (if_neg (by simp [State.driverChan, h]))

/-- What a check hands on: VALVE_OPEN where it sets the open mark (R108, R110). -/
def checkNotices (c : Channel) (d : DriverChan) (x y : Solenoid) : List Instr :=
  if !x.openMark && y.openMark then [valveNotice .valveOpen c d] else []

theorem State.hand_nil (s : State) : s.hand [] = s := by simp [State.hand]

/-- A check that is due writes its solenoid and raises VALVE_OPEN where it sets the mark (R107, R108). -/
theorem exec_checkTimerExpiry_due {s : State} {c : Channel} {v : Valve} {x y : Solenoid} {d : DriverChan} {m : Time}
    {milliamps : Nat} {loadFound : Bool} (hd : d = chanGet s.driver.chans c) (hx : x = solenoid d v)
    (hy : y = checkedSolenoid m (checkFails x.on milliamps loadFound) x) (h : timerDue x.timer m = true) :
    exec (.checkTimerExpiry m c v milliamps loadFound) s = .next
      (((s.stamp m).setDriverChan c (setSolenoid d v y)).hand (checkNotices c d x y)) := by
  have htake : (s.stamp m).takeCheck m c v milliamps loadFound =
      if !x.openMark && y.openMark then
        ((s.stamp m).setDriverChan c (setSolenoid d v y)).hand [valveNotice .valveOpen c d]
      else (s.stamp m).setDriverChan c (setSolenoid d v y) := by
    subst hd hx hy
    exact if_pos h
  refine congrArg Host.Outcome.next (htake.trans ?_)
  unfold checkNotices
  split
  · rfl
  · exact (State.hand_nil _).symm

/-- A check that is not due is void (log entry 7). -/
theorem exec_checkTimerExpiry_void {s : State} {c : Channel} {v : Valve} {m : Time}
    (h : timerDue (solenoid (chanGet s.driver.chans c) v).timer m = false) (milliamps : Nat) (loadFound : Bool) :
    exec (.checkTimerExpiry m c v milliamps loadFound) s = .next (s.stamp m) :=
  congrArg Host.Outcome.next (if_neg (by simp [State.driverChan, h]))

/-! ## The open count (R108) -/

section
variable {t : Time} {fails : Bool} {x : Solenoid} (c : Channel) (d : DriverChan)

/-- A count below 3 leaves the open mark and raises nothing. -/
theorem checkedSolenoid_below {n : Nat} (hn : countOpen fails x.openCount = n) (hlt : n < 3) :
    (checkedSolenoid t fails x).openCount = n ∧ (checkedSolenoid t fails x).openMark = x.openMark
      ∧ checkNotices c d x (checkedSolenoid t fails x) = [] := by
  have hmark : (checkedSolenoid t fails x).openMark = x.openMark := by
    have hnot : ¬ 3 ≤ n := by omega
    simp [checkedSolenoid, hn, hnot]
  exact ⟨hn, hmark, by simp [checkNotices, hmark]⟩

/-- A count of 3 sets the open mark, and raises VALVE_OPEN where the mark was clear. -/
theorem checkedSolenoid_open (hn : countOpen fails x.openCount = 3) :
    (checkedSolenoid t fails x).openCount = 3 ∧ (checkedSolenoid t fails x).openMark = true
      ∧ checkNotices c d x (checkedSolenoid t fails x) = if x.openMark then [] else [valveNotice .valveOpen c d] := by
  have hmark : (checkedSolenoid t fails x).openMark = true := by simp [checkedSolenoid, hn]
  refine ⟨hn, hmark, ?_⟩
  cases hx : x.openMark <;> simp [checkNotices, hmark, hx]

end

/-- Settles O43: an over-current by whether its solenoid is on, and a check by the count it leaves. -/
theorem solenoidFindingsAreRaised : Obligations.SolenoidFindingsAreRaised := by
  intro m ch v milliamps load fails x d s hd hx hfails
  have hx' : x = solenoid d v := by cases v <;> exact hx
  refine ⟨fun hon => ?_, fun hoff => ?_, fun hdue => ?_, fun hdue => ?_⟩
  · refine ⟨shortChannel m v d, ?_, ?_, ?_⟩
    · subst hd hx'
      exact exec_overCurrent_on hon m
    · rintro rfl
      subst hx'
      rw [shortChannel, driveSolenoid_off]
      rfl
    · rintro rfl
      subst hx'
      rfl
  · subst hd hx'
    exact exec_overCurrent_off hoff m
  · obtain ⟨y, hy⟩ : ∃ y, y = checkedSolenoid m fails x := ⟨_, rfl⟩
    refine ⟨setSolenoid d v y, checkNotices ch d x y, ?_, y, ?_, ?_⟩
    · exact exec_checkTimerExpiry_due hd hx' (hy.trans (congrArg (checkedSolenoid m · x) hfails)) hdue
    · cases v <;> rfl
    · subst hy
      refine ⟨rfl, rfl, rfl, fun hlt hpass => ?_, fun hlt hfail => ?_, fun htwo hfail hmark => ?_, fun hthree hmark => ?_⟩
      · exact checkedSolenoid_below ch d (hpass ▸ countOpen_passes hlt) (by omega)
      · exact checkedSolenoid_below ch d (hfail ▸ countOpen_counts (by omega)) (by omega)
      · obtain ⟨hcount, hopen, hnotices⟩ := checkedSolenoid_open (t := m) (fails := fails) (x := x) ch d
          (by rw [hfail, htwo]; rfl)
        exact ⟨hcount, hopen, hnotices.trans (if_neg (by simp [hmark]))⟩
      · obtain ⟨hcount, hopen, hnotices⟩ := checkedSolenoid_open (t := m) (fails := fails) (x := x) ch d
          (by rw [hthree]; rfl)
        exact ⟨hcount, hopen, hnotices.trans (if_pos hmark)⟩
  · subst hd hx'
    exact exec_checkTimerExpiry_void hdue milliamps load

end Sys2Proof.Machine

namespace Sys2Proof.Machine

/-! ## The valve test: its steps, its end and its aborts (R105, R195, R196) -/

/-- The end of the test, with what is handed and the reply put in the slot (R190, R195, R196). -/
def State.testEnded (s : State) (handed : List Instr) (payload : List Byte) : State :=
  { s with service := { s.service with test := .none, stepTimer := none }
           handed := s.handed ++ handed
           link := { s.link with reply := { s.link.reply with waiting := some ⟨payload, false⟩ } } }

theorem State.testEnded_nil (s : State) (payload : List Byte) : s.testEnded [] payload =
    { s with service := { s.service with test := .none, stepTimer := none }
             link := { s.link with reply := { s.link.reply with waiting := some ⟨payload, false⟩ } } } := by
  rw [State.testEnded, List.append_nil]

/-- The reply at the end of a test, put in the slot once the test has ended (R190, R195, R196). -/
theorem State.endTest_reply (s : State) (o : ReplyOutcome) (data : List Byte) :
    s.endTest.reply reqValveTest o .none data
      = s.testEnded [] ([5#8, BitVec.ofNat 8 (64 * outcomeCode o + s.position.val)] ++ data) := by
  rw [State.testEnded_nil]
  rfl

theorem State.endTest_hand_reply (s : State) (handed : List Instr) (o : ReplyOutcome) (data : List Byte) :
    (s.endTest.hand handed).reply reqValveTest o .none data
      = s.testEnded handed ([5#8, BitVec.ofNat 8 (64 * outcomeCode o + s.position.val)] ++ data) := rfl

theorem State.hand_testEnded (s : State) (before handed : List Instr) (payload : List Byte) :
    (s.hand before).testEnded handed payload = s.testEnded (before ++ handed) payload := by
  simp [State.testEnded, State.hand]

section
variable {s : State} {c : Channel} {m : Time} {a : AbortEvent} {round : Nat} {x : TestStep}

/-- A channel still in TEST becomes INACTIVE, and the change is handed on (R86, R195, R196). -/
theorem State.leaveTest_frees (h : (chanGet s.slip c).phase = .test) : s.leaveTest c =
    { s with slip := chanSet s.slip c { chanGet s.slip c with phase := .inactive } }.hand
      [.phaseHandoff c .inactive (chanGet s.slip c).cap, .lanePhaseCopy c .inactive] := if_pos h

/-- A channel forced PASSIVE stays as it is (R195, R196). -/
theorem State.leaveTest_stays (h : (chanGet s.slip c).phase ≠ .test) : s.leaveTest c = s := if_neg h

/-! ### The steps (R195) -/

theorem exec_stepTimerExpiry_due (h : s.service.test = .running c round x)
    (hdue : timerDue s.service.stepTimer m = true) :
    exec (.stepTimerExpiry m) s = .next ((s.stamp m).nextStep c round x m) := by
  refine congrArg Host.Outcome.next ?_
  have htest : (s.stamp m).service.test = .running c round x := h
  have hdue' : timerDue (s.stamp m).service.stepTimer m = true := hdue
  simp only [State.takeStepExpiry, htest, hdue', if_true]

/-- With no test running, or not due, a step expiry does nothing (log entry 7). -/
theorem exec_stepTimerExpiry_void (h : timerDue s.service.stepTimer m = false ∨ s.service.test = .none
      ∨ ∃ d, s.service.test = .asking d) : exec (.stepTimerExpiry m) s = .next (s.stamp m) := by
  refine congrArg Host.Outcome.next ?_
  have hservice : (s.stamp m).service = s.service := rfl
  unfold State.takeStepExpiry
  rw [hservice]
  rcases h with h | h | ⟨d, h⟩
  · cases s.service.test <;> simp [h]
  · simp [h]
  · simp [h]

/-- The steps of a test in their order, three rounds long (R195). -/
theorem State.nextStep_enters {y : TestStep} {round2 : Nat}
    (h : (x, y, round2) ∈ [(TestStep.hold, TestStep.exhaust, round), (.exhaust, .pass, round), (.pass, .hold, round + 1)])
    (hround : round2 ≤ 3) : s.nextStep c round x m = s.enterTestStep c round2 y m := by
  simp only [List.mem_cons, Prod.mk.injEq, List.not_mem_nil, or_false] at h
  rcases h with ⟨rfl, rfl, rfl⟩ | ⟨rfl, rfl, rfl⟩ | ⟨rfl, rfl, rfl⟩
  · rfl
  · rfl
  · exact if_neg (by omega)

/-- The expiry of the last PASS ends the test and hands SERVICE back with the reply DONE (R195). -/
theorem State.nextStep_finishes (s : State) (c : Channel) (m : Time) : s.nextStep c 3 .pass m =
    (s.leaveTest c).testEnded [.serviceExit] [5#8, BitVec.ofNat 8 s.position.val, channelByte c] := by
  have hposition : (s.leaveTest c).position = s.position := State.position_eq (by simp)
  refine (State.endTest_hand_reply (s.leaveTest c) [.serviceExit] .done [channelByte c]).trans ?_
  simp [hposition, outcomeCode]

/-! ### The aborts (R196) -/

theorem exec_abortEvent_running (hturn : s.inTurn (.abortEvent a) = true) (h : s.service.test = .running c round x) :
    exec (.abortEvent a) s = .next ((s.take (.abortEvent a)).abortTest a c round x) := by
  refine congrArg Host.Outcome.next ((State.takeInTurn_of_inTurn hturn _).trans ?_)
  have htest : (s.take (.abortEvent a)).service.test = .running c round x := h
  simp only [State.takeAbort, htest]

/-- With no test running an abort event does nothing (R196). -/
theorem exec_abortEvent_void (hturn : s.inTurn (.abortEvent a) = true)
    (h : s.service.test = .none ∨ ∃ d, s.service.test = .asking d) :
    exec (.abortEvent a) s = .next (s.take (.abortEvent a)) := by
  refine congrArg Host.Outcome.next ((State.takeInTurn_of_inTurn hturn _).trans ?_)
  have hservice : (s.take (.abortEvent a)).service = s.service := rfl
  unfold State.takeAbort
  rw [hservice]
  rcases h with h | ⟨d, h⟩
  · simp [h]
  · simp [h]

/-- The reply of an abort: the round and the step reached (R196; 12, section 12.4). -/
def abortedPayload (p : Position) (c : Channel) (round : Nat) (x : TestStep) : List Byte :=
  [5#8, BitVec.ofNat 8 (128 + p.val), channelByte c, BitVec.ofNat 8 (16 * round + testStepCode x)]

/-- What an abort hands on at its end: SERVICE back, but for the notices of a mode change (R196). -/
def abortHandoffs (a : AbortEvent) : List Instr := if abortLeavesService a then [.serviceExit] else []

/-- An abort by whether it frees the channel and whether it hands SERVICE back (R196). -/
theorem State.abortTest_eq (s : State) (a : AbortEvent) (c : Channel) (round : Nat) (x : TestStep) :
    s.abortTest a c round x = (if abortFreesChannel a then s.leaveTest c else s).testEnded (abortHandoffs a)
      (abortedPayload s.position c round x) := by
  unfold State.abortTest abortHandoffs
  dsimp only
  have hposition : (if abortFreesChannel a then s.leaveTest c else s).position = s.position := by
    split
    · exact State.position_eq (by simp)
    · rfl
  rw [← hposition]
  generalize (if abortFreesChannel a then s.leaveTest c else s) = u
  cases abortLeavesService a
  · exact State.endTest_reply u .aborted _
  · exact State.endTest_hand_reply u [.serviceExit] .aborted _

/-- An abort that leaves the channel to the fault unit, or finds it forced, leaves its phase (R196). -/
theorem State.abortTest_keeps (h : abortFreesChannel a = false ∨ (chanGet s.slip c).phase ≠ .test) :
    s.abortTest a c round x = s.testEnded (abortHandoffs a) (abortedPayload s.position c round x) := by
  rw [State.abortTest_eq]
  split
  · next hfrees =>
    rcases h with h | h
    · cases hfrees.symm.trans h
    · rw [State.leaveTest_stays h]
  · rfl

/-- An abort that frees a channel still in TEST makes it INACTIVE (R196). -/
theorem State.abortTest_frees (hfrees : abortFreesChannel a = true) (hphase : (chanGet s.slip c).phase = .test) :
    s.abortTest a c round x =
      { s with slip := chanSet s.slip c { chanGet s.slip c with phase := .inactive } }.testEnded
        (.phaseHandoff c .inactive (chanGet s.slip c).cap :: .lanePhaseCopy c .inactive :: abortHandoffs a)
        (abortedPayload s.position c round x) := by
  rw [State.abortTest_eq, if_pos hfrees, State.leaveTest_frees hphase, State.hand_testEnded]
  rfl

end

/-- Settles O60: the steps, the end and each abort by what it does with the channel and with SERVICE, and the void ones. -/
theorem valveTestRunsAndAborts : Obligations.ValveTestRunsAndAborts := by
  intro m a ch k p round stepCode x data r s hp hr hk hdata hturn hx
  have hbyte : channelByte ch = BitVec.ofNat 8 k := by
    rcases hk with ⟨rfl, rfl⟩ | ⟨rfl, rfl⟩ <;> rfl
  have hcode : testStepCode x = stepCode := by
    simp only [List.mem_cons, Prod.mk.injEq, List.not_mem_nil, or_false] at hx
    rcases hx with ⟨rfl, rfl⟩ | ⟨rfl, rfl⟩ | ⟨rfl, rfl⟩ <;> rfl
  refine ⟨fun htest => ?_, exec_abortEvent_void hturn, exec_stepTimerExpiry_void⟩
  have hpayload : abortedPayload s.position ch round x = data := by rw [abortedPayload, hbyte, hcode, hdata, hp]
  obtain ⟨u, hu⟩ : ∃ u, u = s.take (.abortEvent a) := ⟨_, rfl⟩
  have hkeeps : abortFreesChannel a = false ∨ r.phase ≠ .test →
      exec (.abortEvent a) s = .next (u.testEnded (abortHandoffs a) data) := by
    intro h
    rw [exec_abortEvent_running hturn htest, ← hpayload, hu]
    exact congrArg Host.Outcome.next (State.abortTest_keeps (hr ▸ h))
  have hfrees : abortFreesChannel a = true → r.phase = .test → exec (.abortEvent a) s = .next
      ({ u with slip := chanSet s.slip ch { r with phase := .inactive } }.testEnded
        (.phaseHandoff ch .inactive r.cap :: .lanePhaseCopy ch .inactive :: abortHandoffs a) data) := by
    intro h hphase
    rw [exec_abortEvent_running hturn htest, ← hpayload, hu, hr]
    exact congrArg Host.Outcome.next (State.abortTest_frees h (hr ▸ hphase))
  refine ⟨fun hdue => ⟨fun y round2 pat micros hstep hround => ?_, fun hpass hlast hphase => ?_,
    fun hpass hlast hphase => ?_⟩, fun ha hphase => ?_, fun ha hphase => ?_, fun ha hphase => ?_, fun ha hphase => ?_,
    fun ha => ?_, fun ha => ?_⟩
  · rw [exec_stepTimerExpiry_due htest hdue]
    have hsteps : (x, y, round2) ∈ [(TestStep.hold, TestStep.exhaust, round), (.exhaust, .pass, round),
          (.pass, .hold, round + 1)] ∧ pat = testStepPattern y ∧ micros = testStepMicros y := by
      simp only [List.mem_cons, Prod.mk.injEq, List.not_mem_nil, or_false] at hstep ⊢
      rcases hstep with ⟨rfl, rfl, rfl, rfl, rfl⟩ | ⟨rfl, rfl, rfl, rfl, rfl⟩ | ⟨rfl, rfl, rfl, rfl, rfl⟩ <;>
        simp [testStepPattern, testStepMicros]
    obtain ⟨hnext, rfl, rfl⟩ := hsteps
    exact congrArg Host.Outcome.next (State.nextStep_enters hnext hround)
  · subst hpass hlast hr hp
    rw [exec_stepTimerExpiry_due htest hdue, State.nextStep_finishes, State.leaveTest_frees (s := s.stamp m) hphase,
      State.hand_testEnded, hbyte]
    rfl
  · subst hpass hlast hr hp
    rw [exec_stepTimerExpiry_due htest hdue, State.nextStep_finishes, State.leaveTest_stays (s := s.stamp m) hphase, hbyte]
    rfl
  · rw [hkeeps (.inr hphase), hu]
    rcases ha with ⟨i, rfl⟩ | rfl | rfl <;> rfl
  · subst ha
    rw [hkeeps (.inr hphase), hu]
    exact congrArg Host.Outcome.next (State.testEnded_nil _ _)
  · obtain ⟨hfree, hservice⟩ : abortFreesChannel a = true ∧ abortHandoffs a = [.serviceExit] := by
      rcases ha with ⟨i, rfl⟩ | rfl | rfl <;> exact ⟨rfl, rfl⟩
    rw [hfrees hfree hphase, hservice, hu]
    rfl
  · subst ha
    rw [hfrees rfl hphase, hu]
    rfl
  · rcases ha with rfl | rfl
    · rw [hkeeps (.inl rfl), hu]
      exact congrArg Host.Outcome.next (State.testEnded_nil _ _)
    · rw [hkeeps (.inl rfl), hu]
      exact congrArg Host.Outcome.next (State.testEnded_nil _ _)
  · subst ha
    rw [hkeeps (.inl rfl), hu]
    rfl

end Sys2Proof.Machine

namespace Sys2Proof.Machine

/-! ## The statistics (R129) -/

/-- Every statistic in its 16 bits (R129). -/
structure LinkStats.InRange (x : LinkStats) : Prop where
  receiveErrors : x.receiveErrors ≤ 65535
  foreignFrames : x.foreignFrames ≤ 65535
  transmitErrors : x.transmitErrors ≤ 65535
  alertDrops : x.alertDrops ≤ 65535
  duplicates : x.duplicates ≤ 65535
  gaps : x.gaps ≤ 65535

/-- The clause of the law on the statistics. -/
theorem LinkStats.inRange_iff (x : LinkStats) : x.InRange ↔ x.receiveErrors ≤ 65535 ∧ x.foreignFrames ≤ 65535
    ∧ x.transmitErrors ≤ 65535 ∧ x.alertDrops ≤ 65535 ∧ x.duplicates ≤ 65535 ∧ x.gaps ≤ 65535 :=
  ⟨fun ⟨a, b, c, d, e, f⟩ => ⟨a, b, c, d, e, f⟩, fun ⟨a, b, c, d, e, f⟩ => ⟨a, b, c, d, e, f⟩⟩

theorem LinkStats.zero_inRange : LinkStats.zero.InRange := by constructor <;> simp [LinkStats.zero]

section
variable {s : State} (h : s.link.stats.InRange)
include h

theorem State.addReceiveError_inRange : s.addReceiveError.link.stats.InRange :=
  { h with receiveErrors := saturate16_le _ _ }

theorem State.addForeign_inRange (n : Nat) : (s.addForeign n).link.stats.InRange :=
  { h with foreignFrames := saturate16_le _ _ }

theorem State.addTransmitError_inRange : s.addTransmitError.link.stats.InRange :=
  { h with transmitErrors := saturate16_le _ _ }

theorem State.addAlertDrops_inRange (n : Nat) : (s.addAlertDrops n).link.stats.InRange :=
  { h with alertDrops := saturate16_le _ _ }

theorem State.addDuplicate_inRange : s.addDuplicate.link.stats.InRange :=
  { h with duplicates := saturate16_le _ _ }

theorem State.addGap_inRange (n : Nat) : (s.addGap n).link.stats.InRange :=
  { h with gaps := saturate16_le _ _ }

end

/-! ## Frames in flight (R117, R119) -/

theorem State.framesInFlight_eq {s t : State} (h : t.link = s.link) : t.framesInFlight = s.framesInFlight := by
  simp only [State.framesInFlight, h]

/-- Nothing is in flight exactly when each slot's place is empty. -/
theorem State.framesInFlight_eq_zero (s : State) : s.framesInFlight = 0 ↔
    s.link.status.inFlight = none ∧ s.link.alert = none ∧ s.link.reply.inFlight = none := by
  simp [State.framesInFlight, Nat.add_eq_zero_iff, List.length_eq_zero_iff, and_assoc]

theorem State.nothingInFlight_iff (s : State) : s.nothingInFlight = true ↔ s.framesInFlight = 0 := by
  simp [State.nothingInFlight, State.framesInFlight_eq_zero, and_assoc]

theorem State.frameInFlight_eq_none (s : State) : s.frameInFlight = none ↔ s.framesInFlight = 0 := by
  rw [State.framesInFlight_eq_zero]
  unfold State.frameInFlight
  split <;> simp [*]

/-- A bit is sent only of a frame in flight. -/
theorem State.framesInFlight_ne_zero_of_sentBit {s : State} {k : Nat} {b : Bit} (h : s.sentBit k = some b) :
    s.framesInFlight ≠ 0 := by
  rw [Ne, ← s.frameInFlight_eq_none]
  intro hnone
  simp [State.sentBit, hnone] at h

/-- A frame that left the line without success is no more in flight (R117, R118). -/
theorem State.returnFrame_framesInFlight (s : State) (o : AlertReturn) : (s.returnFrame o).framesInFlight = 0 := by
  have hplaces : (slotReturn s.link.status).inFlight = none ∧ (slotReturn s.link.reply).inFlight = none :=
    ⟨(slotReturn_cases _).1, (slotReturn_cases _).1⟩
  obtain ⟨hstatus, hreply⟩ := hplaces
  rw [State.framesInFlight_eq_zero]
  unfold State.returnFrame
  dsimp only
  split
  · exact ⟨hstatus, rfl, hreply⟩
  · exact ⟨hstatus, rfl, hreply⟩

/-- What the return of a frame leaves of the link. -/
@[simp] theorem State.returnFrame_link (s : State) (o : AlertReturn) : (s.returnFrame o).link = { s.link with
    status := slotReturn s.link.status, reply := slotReturn s.link.reply, alert := none, ownSending := false } := by
  unfold State.returnFrame
  dsimp only
  split <;> rfl

/-! ## What keeps the law -/

/-- What a command that starts and ends no transmission, and takes no alert, keeps of the link and the report composer. -/
structure TransmitKept (s t : State) : Prop where
  queue : t.composer.queue = s.composer.queue
  group : t.composer.group = s.composer.group
  framesInFlight : t.framesInFlight = s.framesInFlight
  tx : t.link.tx = s.link.tx
  consecutive : t.link.consecutive = s.link.consecutive
  stuck : s.link.stuck ≤ 10000 → t.link.stuck ≤ 10000
  stats : s.link.stats.InRange → t.link.stats.InRange

/-- A command that writes neither the link nor the report composer. -/
theorem TransmitKept.of_frame {s t : State} (hlink : t.link = s.link) (hcomposer : t.composer = s.composer) :
    TransmitKept s t := by
  constructor <;> simp [hlink, hcomposer, State.framesInFlight_eq hlink]

theorem TransmitKept.refl (s : State) : TransmitKept s s := .of_frame rfl rfl

theorem TransmitKept.trans {s t u : State} (h : TransmitKept s t) (h' : TransmitKept t u) : TransmitKept s u where
  queue := h'.queue.trans h.queue
  group := h'.group.trans h.group
  framesInFlight := h'.framesInFlight.trans h.framesInFlight
  tx := h'.tx.trans h.tx
  consecutive := h'.consecutive.trans h.consecutive
  stuck := h'.stuck ∘ h.stuck
  stats := h'.stats ∘ h.stats

theorem TransmitKept.after_frame {s t u : State} (h : TransmitKept t u) (hlink : t.link = s.link)
    (hcomposer : t.composer = s.composer) : TransmitKept s u :=
  (TransmitKept.of_frame hlink hcomposer).trans h

/-- The statistics replaced by ones in their range. -/
theorem State.setStats_kept {s : State} {x : LinkStats} (h : s.link.stats.InRange → x.InRange) :
    TransmitKept s (s.setStats x) :=
  ⟨rfl, rfl, rfl, rfl, rfl, id, h⟩

theorem State.LinkLaw.stats_inRange {s : State} (hs : s.LinkLaw) : s.link.stats.InRange :=
  (LinkStats.inRange_iff _).2 hs.stats

theorem State.LinkLaw.of_kept {s t : State} (hs : s.LinkLaw) (h : TransmitKept s t) : t.LinkLaw where
  queue := h.queue ▸ hs.queue
  group := h.group ▸ hs.group
  inFlight := h.framesInFlight ▸ hs.inFlight
  quietTransmitter := by
    rw [h.tx, h.framesInFlight]
    exact hs.quietTransmitter
  consecutive := h.consecutive ▸ hs.consecutive
  silent := by
    rw [h.tx, h.consecutive]
    exact hs.silent
  stuck := h.stuck hs.stuck
  stats := (LinkStats.inRange_iff _).1 (h.stats hs.stats_inRange)

theorem State.LinkLaw.of_frame {s t : State} (hs : s.LinkLaw) (hlink : t.link = s.link)
    (hcomposer : t.composer = s.composer) : t.LinkLaw :=
  hs.of_kept (.of_frame hlink hcomposer)

/-- A frame in flight has an ENABLED transmitter (R119, R126). -/
theorem State.LinkLaw.enabled_of_inFlight {s : State} (hs : s.LinkLaw) (h : s.framesInFlight ≠ 0) :
    s.link.tx = .enabled := by
  by_contra htx
  exact h (hs.quietTransmitter htx)

/-- A command that leaves nothing in flight and a consecutive count that fits the transmitter. -/
theorem State.LinkLaw.of_noneInFlight {s t : State} (hs : s.LinkLaw) (hcomposer : t.composer = s.composer)
    (hnone : t.framesInFlight = 0) (hconsecutive : t.link.consecutive ≤ 8)
    (hsilent : t.link.tx = .silent → t.link.consecutive = 8) (hstuck : t.link.stuck = s.link.stuck)
    (hstats : t.link.stats.InRange) : t.LinkLaw where
  queue := hcomposer ▸ hs.queue
  group := hcomposer ▸ hs.group
  inFlight := hnone ▸ Nat.zero_le 1
  quietTransmitter _ := hnone
  consecutive := hconsecutive
  silent := hsilent
  stuck := hstuck ▸ hs.stuck
  stats := (LinkStats.inRange_iff _).1 hstats

/-! ## Replies and the service responder (R189 to R196) -/

theorem State.putReply_kept (s : State) (r : Reply) : TransmitKept s (s.putReply r) :=
  ⟨rfl, rfl, rfl, rfl, rfl, id, id⟩

theorem State.addReceiveError_kept (s : State) : TransmitKept s s.addReceiveError :=
  State.setStats_kept State.addReceiveError_inRange

theorem State.reply_kept (s : State) (kind : Byte) (o : ReplyOutcome) (why : ReplyReason) (data : List Byte) :
    TransmitKept s (s.reply kind o why data) :=
  s.putReply_kept _

theorem State.acceptClear_kept (s : State) : TransmitKept s s.acceptClear :=
  have hcleared : TransmitKept s (s.setStats LinkStats.zero) := State.setStats_kept fun _ => LinkStats.zero_inRange
  hcleared.trans ((State.reply_kept _ _ _ _ _).after_frame rfl rfl)

theorem State.acceptRestart_kept (s : State) : TransmitKept s s.acceptRestart :=
  (State.putReply_kept _ _).after_frame rfl rfl

theorem State.judgeCommon_kept {accept : State → State} (haccept : ∀ s, TransmitKept s (accept s)) (s : State)
    (kind : Byte) : TransmitKept s (s.judgeCommon kind accept) := by
  unfold State.judgeCommon
  split
  · exact s.reply_kept _ _ _ _
  · exact haccept s

theorem State.judgeTest_kept (s : State) (arg : Byte) : TransmitKept s (s.judgeTest arg) := by
  unfold State.judgeTest
  repeat' split
  case h_2.isFalse.isFalse.isFalse => exact .of_frame rfl rfl
  all_goals exact s.reply_kept _ _ _ _

theorem State.judgeRequest_kept (s : State) (kind arg : Byte) : TransmitKept s (s.judgeRequest kind arg) := by
  unfold State.judgeRequest
  split_ifs
  · exact s.reply_kept _ _ _ _
  · exact s.reply_kept _ _ _ _
  · exact State.judgeCommon_kept State.acceptClear_kept s kind
  · exact State.judgeCommon_kept State.acceptRestart_kept s kind
  · exact s.judgeTest_kept arg
  · exact s.reply_kept _ _ _ _

theorem State.takeRequest_kept (s : State) (kind : Byte) (r : ServiceReq) : TransmitKept s (s.takeRequest kind r) := by
  unfold State.takeRequest
  split_ifs
  · exact .refl s
  · exact s.addReceiveError_kept
  · exact .refl s
  · exact (State.judgeRequest_kept _ _ _).after_frame rfl rfl

/-- The answer, the end and the abort of a valve test each write the link by one reply at most (R194 to R196). -/
theorem TransmitKept.then_reply {s t : State} (hlink : t.link = s.link) (hcomposer : t.composer = s.composer) (kind : Byte)
    (o : ReplyOutcome) (why : ReplyReason) (data : List Byte) : TransmitKept s (t.reply kind o why data) :=
  (t.reply_kept kind o why data).after_frame hlink hcomposer

theorem State.takeAnswer_kept (s : State) (accepted : Bool) : TransmitKept s (s.takeAnswer accepted) := by
  unfold State.takeAnswer State.startTest
  split
  case h_1 =>
    split
    · split <;> exact .then_reply (by simp) (by simp) _ _ _ _
    · exact .then_reply (by simp) (by simp) _ _ _ _
  all_goals exact .refl s

theorem State.takeStepExpiry_kept (s : State) (t : Time) : TransmitKept s (s.takeStepExpiry t) := by
  unfold State.takeStepExpiry State.nextStep
  split
  case h_1 =>
    split
    · split
      case h_3 =>
        split
        · exact .then_reply (by simp) (by simp) _ _ _ _
        · exact .of_frame rfl rfl
      all_goals exact .of_frame rfl rfl
    · exact .refl s
  all_goals exact .refl s

theorem State.takeAbort_kept (s : State) (a : AbortEvent) : TransmitKept s (s.takeAbort a) := by
  unfold State.takeAbort
  split
  case h_1 =>
    refine .then_reply ?_ ?_ _ _ _ _
    · split_ifs <;> simp
    · split_ifs <;> simp
  all_goals exact .refl s

/-! ## Frames taken by the view unit (R36, R37, R45) -/

theorem State.addForeign_kept (s : State) (n : Nat) : TransmitKept s (s.addForeign n) :=
  State.setStats_kept fun h => State.addForeign_inRange h n

theorem State.rejectSender_kept (s : State) (c : SenderCase) : TransmitKept s (s.rejectSender c) := by
  unfold State.rejectSender
  split
  · exact .of_frame rfl rfl
  · exact s.addForeign_kept 1
  · exact s.addReceiveError_kept
  · exact .refl s

theorem State.replacePeer_kept (s : State) (p : Position) (e : PeerEntry) : TransmitKept s (s.replacePeer p e) :=
  .of_frame (by simp) (by simp)

theorem State.acceptStatus_kept (s : State) (p : Position) (r : ReadStatus) : TransmitKept s (s.acceptStatus p r) := by
  unfold State.acceptStatus
  split
  · next missed _ =>
    have hgap : ∀ u : State, TransmitKept u (u.addGap missed) := fun u =>
      State.setStats_kept fun h => State.addGap_inRange h missed
    exact ((s.replacePeer_kept _ _).trans (hgap _)).trans (.of_frame rfl rfl)
  · exact State.setStats_kept State.addDuplicate_inRange

theorem State.takeStatus_kept (s : State) (sender : Fin 8) (payload : List Byte) :
    TransmitKept s (s.takeStatus sender payload) := by
  unfold State.takeStatus
  split
  · split
    · exact s.acceptStatus_kept _ _
    · exact s.rejectSender_kept _
  · exact .refl s

theorem State.applyAlerts_kept (s : State) (p : Position) (alerts : List ReadAlert) :
    TransmitKept s (s.applyAlerts p alerts) := by
  rcases heard_or_not (quadGet s.view.peers p).state with h | h
  · rw [State.applyAlerts_heard alerts h]
    exact (s.replacePeer_kept _ _).trans (State.addForeign_kept _ _)
  · rw [State.applyAlerts_aside alerts h]
    exact .refl s

theorem State.takeAlert_kept (s : State) (sender : Fin 8) (payload : List Byte) :
    TransmitKept s (s.takeAlert sender payload) := by
  unfold State.takeAlert
  split
  · split
    · exact s.applyAlerts_kept _ _
    · exact s.rejectSender_kept _
  · exact .refl s

/-! ## The line (R113, R114, R127, R128) -/

theorem State.setLine_kept (s : State) (x : LineState) : TransmitKept s (s.setLine x) :=
  ⟨rfl, rfl, rfl, rfl, rfl, id, id⟩

theorem State.settleLine_kept (s : State) (x : LineState) : TransmitKept s (s.settleLine x) := by
  unfold State.settleLine
  split
  · exact ⟨rfl, rfl, rfl, rfl, rfl, id, id⟩
  · exact s.setLine_kept x

/-- The stuck timer stays within 10 ms over bits read (R114). -/
theorem foldl_stuckBit_le (bits : List Bit) (x : Nat × Bool) (h : x.1 ≤ 10000) : (bits.foldl stuckBit x).1 ≤ 10000 := by
  induction bits generalizing x with
  | nil => exact h
  | cons b bits ih =>
    refine ih _ ?_
    cases b <;> simp [stuckBit]

theorem State.timeStuck_kept (s : State) (bits : List Bit) : TransmitKept s (s.timeStuck bits) :=
  ⟨rfl, rfl, rfl, rfl, rfl, foldl_stuckBit_le bits (s.link.stuck, s.link.stuckTaken), id⟩

theorem State.readBits_kept (s : State) (bits : List Bit) : TransmitKept s (s.readBits bits) := by
  unfold State.readBits
  split
  · exact (s.settleLine_kept _).trans (State.timeStuck_kept _ _)
  · exact .refl s

theorem State.takeStuck_kept (s : State) : TransmitKept s s.takeStuck := by
  unfold State.takeStuck
  split
  · exact ⟨rfl, rfl, rfl, rfl, rfl, fun _ => le_rfl, id⟩
  · exact .refl s

theorem State.dispatchRequest_kept (s : State) (payload : List Byte) : TransmitKept s (s.dispatchRequest payload) := by
  rcases s.dispatchRequest_cases payload with ⟨-, e⟩ | ⟨-, -, e⟩ | ⟨-, -, e⟩ <;> rw [e]
  · exact .refl s
  · exact .of_frame rfl rfl
  · exact s.addReceiveError_kept

theorem State.dispatch_kept (s : State) (kind : Nat) (sender : Fin 8) (payload : List Byte) :
    TransmitKept s (s.dispatch kind sender payload) := by
  unfold State.dispatch
  split_ifs
  · exact .of_frame rfl rfl
  · exact .of_frame rfl rfl
  · exact s.dispatchRequest_kept payload
  · exact .of_frame rfl rfl
  · exact .refl s
  · exact s.addForeign_kept 1

theorem State.judgeFrame_kept (s : State) (f : ReadFrame) : TransmitKept s (s.judgeFrame f) := by
  unfold State.judgeFrame
  split_ifs
  · exact s.addReceiveError_kept
  · exact .refl s
  · exact s.dispatch_kept _ _ _

theorem State.endFrame_kept (s : State) (f : ReadFrame) : TransmitKept s (s.endFrame f) :=
  ⟨rfl, rfl, rfl, rfl, rfl, id, id⟩

theorem State.takeFrame_kept (s : State) (bits : List Bit) : TransmitKept s (s.takeFrame bits) := by
  unfold State.takeFrame
  split
  · split
    · exact s.readBits_kept _
    · exact .refl s
    · exact .refl s
    · exact ((s.judgeFrame_kept _).trans (State.endFrame_kept _ _)).trans (State.timeStuck_kept _ _)
  · exact .refl s

/-! ## Starting a frame (R119, R141) -/

theorem State.mayStart_iff (s : State) : s.mayStart = true ↔ s.link.tx = .enabled ∧ s.link.line = .idle
    ∧ s.link.awaitIdle = false ∧ s.frameOffered = true ∧ s.framesInFlight = 0 := by
  simp [State.mayStart, State.nothingInFlight_iff, and_assoc]

/-- The start bit on the line writes the line and the mark of an own frame (R113, R127). -/
theorem State.beginSending_kept (s : State) : TransmitKept s s.beginSending := ⟨rfl, rfl, rfl, rfl, rfl, id, id⟩

theorem State.startFrame_linkLaw {s : State} (hs : s.LinkLaw) : s.startFrame.LinkLaw := by
  unfold State.startFrame
  split
  · next hmay =>
    obtain ⟨htx, -, -, -, hnone⟩ := s.mayStart_iff.1 hmay
    obtain ⟨hstatus, halert, hreply⟩ := s.framesInFlight_eq_zero.1 hnone
    refine State.LinkLaw.of_kept ?_ (State.beginSending_kept _)
    unfold State.startChosen
    split
    · exact { hs with
        queue := ⟨Nat.zero_le _, .nil⟩
        group := hs.queue
        inFlight := by simp [State.startAlert, State.framesInFlight, hstatus, hreply]
        quietTransmitter := fun h => absurd htx h }
    · split
      · exact { hs with
          inFlight := by simp [State.startStatus, State.framesInFlight, halert, hreply]
          quietTransmitter := fun h => absurd htx h }
      · exact { hs with
          inFlight := by simp [State.startReply, State.framesInFlight, halert, hstatus]
          quietTransmitter := fun h => absurd htx h }
      · exact hs
  · exact hs

/-! ## Outcomes of a transmission (R121 to R126) -/

theorem State.loseContention_linkLaw {s : State} (hs : s.LinkLaw) (k : Fin 8) : (s.loseContention k).LinkLaw := by
  unfold State.loseContention
  split
  · split
    · exact hs.of_noneInFlight (by simp) (s.returnFrame_framesInFlight .lost) (by simpa using hs.consecutive)
        (by simpa using hs.silent) (by simp) (by simpa using hs.stats_inRange)
    · exact hs
  · exact hs

/-- The consecutive count reaches 8 and no further, and the transmitter is SILENT only there (R123, R126). -/
theorem State.countTransmitError_linkLaw {s : State} (hs : s.LinkLaw) (htx : s.link.tx = .enabled) (t : Time) :
    (s.countTransmitError t).LinkLaw := by
  have hnone := s.returnFrame_framesInFlight .failed
  have hstats : (s.returnFrame .failed).addTransmitError.link.stats.InRange :=
    State.addTransmitError_inRange (by simpa using hs.stats_inRange)
  have hcount : countError s.link.consecutive ≤ 8 := Nat.min_le_left _ _
  unfold State.countTransmitError State.judgeSilence
  dsimp only
  split
  · next h8 => exact hs.of_noneInFlight (by simp) hnone hcount (fun _ => h8) (by simp [State.addTransmitError]) hstats
  · exact hs.of_noneInFlight (by simp) hnone hcount (by simp [State.addTransmitError, htx])
      (by simp [State.addTransmitError]) hstats

theorem State.takeMismatch_linkLaw {s : State} (hs : s.LinkLaw) (t : Time) (k : Nat) : (s.takeMismatch t k).LinkLaw := by
  unfold State.takeMismatch
  split
  · next hsent =>
    have htx := hs.enabled_of_inFlight (State.framesInFlight_ne_zero_of_sentBit hsent)
    split
    · unfold State.reframe
      split
      · exact (State.countTransmitError_linkLaw hs htx t).of_kept (State.setLine_kept _ _)
      · exact State.countTransmitError_linkLaw hs htx t
    · exact hs
  · exact hs

theorem State.completeFrame_linkLaw {s : State} (hs : s.LinkLaw) : s.completeFrame.LinkLaw := by
  unfold State.completeFrame
  split
  · next hsome =>
    have hne : s.framesInFlight ≠ 0 := by
      rw [Ne, ← s.frameInFlight_eq_none]
      exact Option.isSome_iff_ne_none.1 hsome
    exact hs.of_noneInFlight rfl ((State.framesInFlight_eq_zero _).2 ⟨rfl, rfl, rfl⟩) (Nat.zero_le _)
      (by simp [hs.enabled_of_inFlight hne]) rfl hs.stats_inRange
  · exact hs

theorem State.endSilence_linkLaw {s : State} (hs : s.LinkLaw) (t : Time) : (s.endSilence t).LinkLaw := by
  unfold State.endSilence
  split
  · exact { hs with quietTransmitter := fun h => absurd rfl h, consecutive := Nat.zero_le _, silent := nofun }
  · exact hs

/-! ## The report composer (R132, R139 to R143) -/

theorem State.report_kept (s : State) (t : Time) (micros : Nat) : TransmitKept s (s.report t micros) :=
  ⟨rfl, rfl, rfl, rfl, rfl, id, id⟩

theorem State.expireReport_kept (s : State) (t : Time) : TransmitKept s (s.expireReport t) := by
  unfold State.expireReport
  split
  · exact s.report_kept _ _
  · exact .refl s

theorem State.reportQuietChange_kept (s : State) (intoQuiet : Bool) : TransmitKept s (s.reportQuietChange intoQuiet) := by
  unfold State.reportQuietChange
  split
  · exact s.report_kept _ _
  · exact .refl s

theorem sameEvent_iff (a b : Alert) : sameEvent a b = true ↔ a.kind = b.kind ∧ a.channel = b.channel := by
  simp [sameEvent]

theorem sameEvent_comm (a b : Alert) : sameEvent a b = sameEvent b a := by
  rw [Bool.eq_iff_iff, sameEvent_iff, sameEvent_iff, eq_comm, eq_comm (a := a.channel)]

/-- New values leave alerts distinct (R140, R143). -/
theorem alertsDistinct_map {f : Alert → Alert} (hf : ∀ a, (f a).kind = a.kind ∧ (f a).channel = a.channel)
    {q : List Alert} (hq : alertsDistinct q) : alertsDistinct (q.map f) := by
  refine List.pairwise_map.2 (hq.imp fun h => ?_)
  simpa [sameEvent, hf] using h

theorem alertsDistinct_concat {q : List Alert} {a : Alert} (hq : alertsDistinct q) (ha : ∀ b ∈ q, sameEvent a b = false) :
    alertsDistinct (q ++ [a]) := by
  refine List.pairwise_append.2 ⟨hq, List.pairwise_singleton _ _, fun b hb c hc => ?_⟩
  rw [List.mem_singleton.1 hc, sameEvent_comm]
  exact ha b hb

/-- A queue within its bound stays so when an alert is handed: merged, appended, or in the oldest's place (R140). -/
theorem enqueueAlert_lawful (a : Alert) {q : List Alert} (hlen : q.length ≤ 4) (hq : alertsDistinct q) :
    (enqueueAlert a q).1.length ≤ 4 ∧ alertsDistinct (enqueueAlert a q).1 := by
  unfold enqueueAlert
  split
  · refine ⟨by simpa [mergeAlert] using hlen, alertsDistinct_map (fun b => ?_) hq⟩
    split <;> exact ⟨rfl, rfl⟩
  · next hnew =>
    have hother : ∀ b ∈ q, sameEvent a b = false := by simpa using hnew
    split
    · exact ⟨by simpa, alertsDistinct_concat hq hother⟩
    · exact ⟨by simp; omega, alertsDistinct_concat hq.drop fun b hb => hother b (List.mem_of_mem_drop hb)⟩

theorem renewed_event (q : List Alert) (a : Alert) : (renewed q a).kind = a.kind ∧ (renewed q a).channel = a.channel := by
  unfold renewed
  split <;> exact ⟨rfl, rfl⟩

/-- The returned alerts, and those that joined meanwhile and are none of them again, are distinct (R143, step 1). -/
theorem mergeReturned_distinct {g q : List Alert} (hg : alertsDistinct g) (hq : alertsDistinct q) :
    alertsDistinct (mergeReturned g q) := by
  refine List.pairwise_append.2 ⟨alertsDistinct_map (renewed_event q) hg, hq.filter _, fun a ha b hb => ?_⟩
  obtain ⟨c, hc, rfl⟩ := List.mem_map.1 ha
  obtain ⟨-, hnone⟩ := List.mem_filter.1 hb
  have hbc : sameEvent b c = false := by simpa using List.any_eq_false.1 (Bool.not_eq_true' _ ▸ hnone) c hc
  rw [sameEvent_comm] at hbc
  simpa [sameEvent, renewed_event] using hbc

theorem dropToFour_lawful {q : List Alert} (hq : alertsDistinct q) :
    (dropToFour q).1.length ≤ 4 ∧ alertsDistinct (dropToFour q).1 :=
  ⟨by simp [dropToFour]; omega, hq.drop⟩

theorem State.setQueue_linkLaw {s : State} (hs : s.LinkLaw) {q : List Alert} (hq : q.length ≤ 4 ∧ alertsDistinct q)
    (n : Nat) : (s.setQueue q n).LinkLaw :=
  { hs with queue := hq, stats := (LinkStats.inRange_iff _).1 (State.addAlertDrops_inRange hs.stats_inRange n) }

theorem State.endGroup_linkLaw {s : State} (hs : s.LinkLaw) : s.endGroup.LinkLaw :=
  { hs with group := ⟨Nat.zero_le _, .nil⟩ }

theorem State.takeAlertHanded_linkLaw {s : State} (hs : s.LinkLaw) (k : AlertKind) (c : Option Channel) (v : Nat) :
    (s.takeAlertHanded k c v).LinkLaw := by
  obtain ⟨hlen, hdistinct⟩ := hs.queue
  unfold State.takeAlertHanded
  split
  · exact State.setQueue_linkLaw hs (enqueueAlert_lawful _ hlen hdistinct) _
  · exact hs

theorem State.returnGroup_linkLaw {s : State} (hs : s.LinkLaw) : s.returnGroup.LinkLaw := by
  obtain ⟨-, hqueue⟩ := hs.queue
  obtain ⟨-, hgroup⟩ := hs.group
  exact State.setQueue_linkLaw (State.endGroup_linkLaw hs) (dropToFour_lawful (mergeReturned_distinct hgroup hqueue)) _

/-! ## The start and the resets (R125, R131, R144, R178, R185) -/

theorem State.endListen_linkLaw {s : State} (hs : s.LinkLaw) (t : Time) : (s.endListen t).LinkLaw := by
  unfold State.endListen
  split
  · have hraised : s.raiseConfigBad.LinkLaw := hs.of_frame (by simp) (by simp)
    have henabled : s.raiseConfigBad.enableTransmitter.LinkLaw :=
      { hraised with quietTransmitter := fun h => absurd rfl h, silent := nofun }
    exact henabled.of_kept ((State.report_kept _ _ _).after_frame rfl rfl)
  · exact hs

theorem State.powerOn_linkLaw (s : State) : s.powerOn.LinkLaw := State.reset_linkLaw.of_frame rfl rfl

theorem State.warmRestart_linkLaw (s : State) : s.warmRestart.LinkLaw := State.reset_linkLaw.of_frame rfl rfl

theorem exec_reset_linkLaw {c : Instr} {s t : State} (hreset : isResetCommand c = true) (hs : s.LinkLaw)
    (h : exec c s = .next t) : t.LinkLaw := by
  cases c
  case powerOnReset => exact Host.Outcome.next.inj h ▸ s.powerOn_linkLaw
  case brownOutExpiry m =>
    obtain rfl := Host.Outcome.next.inj h
    unfold State.brownOut
    split
    · exact State.warmRestart_linkLaw _
    · exact hs.of_frame rfl rfl
  case replySuccessNotice | restartTimerExpiry =>
    obtain rfl := Host.Outcome.next.inj h
    split
    · exact s.warmRestart_linkLaw
    · exact hs.of_frame rfl rfl
  all_goals cases hreset

/-! ## Every command keeps the law of the link and the report composer -/

theorem exec_keeps_linkLaw {c : Instr} {s t : State} (hs : s.LinkLaw) (h : exec c s = .next t) : t.LinkLaw := by
  by_cases hreset : isResetCommand c = true
  · exact exec_reset_linkLaw hreset hs h
  have htake : ∀ d, (s.take d).LinkLaw := fun d => hs.of_frame rfl rfl
  have hstamp : ∀ m, (s.stamp m).LinkLaw := fun m => hs.of_frame rfl rfl
  cases c
  case powerOnReset | brownOutExpiry | replySuccessNotice | restartTimerExpiry => exact absurd rfl hreset
  all_goals obtain rfl := Host.Outcome.next.inj h
  case receiveFrame m bits => exact (hstamp m).of_kept (State.takeFrame_kept _ bits)
  case stuckExpiry m => exact (hstamp m).of_kept (State.takeStuck_kept _)
  case lineIdle m bits => exact (hstamp m).of_kept (State.readBits_kept _ bits)
  case transmitStart m => exact State.startFrame_linkLaw (hstamp m)
  case contentionLoss m k => exact State.loseContention_linkLaw (hstamp m) k
  case transmitError m k => exact State.takeMismatch_linkLaw (hstamp m) m k
  case transmitSuccess m => exact State.completeFrame_linkLaw (hstamp m)
  case silenceExpiry m => exact State.endSilence_linkLaw (hstamp m) m
  case listenExpiry m => exact State.endListen_linkLaw (hstamp m) m
  case reportTimerExpiry m => exact (hstamp m).of_kept (State.expireReport_kept _ m)
  case quietReportChange into =>
    exact State.takeInTurn_of hs ((htake _).of_kept (State.reportQuietChange_kept _ into))
  case statusSuccessNotice => exact { htake .statusSuccessNotice with }
  case alertHanded k ch v =>
    refine State.takeInTurn_of hs ?_
    split
    · exact State.takeAlertHanded_linkLaw (htake _) k ch v
    · exact htake _
  case alertSent => exact State.endGroup_linkLaw (htake _)
  case alertReturned o => exact State.returnGroup_linkLaw (htake _)
  case statusReceived sender payload => exact (htake _).of_kept (State.takeStatus_kept _ sender payload)
  case alertReceived sender payload => exact (htake _).of_kept (State.takeAlert_kept _ sender payload)
  case readRecord r | readStats r | clear r | restart r | valveTest r | badRequest k r =>
    exact (htake _).of_kept (State.takeRequest_kept _ _ _)
  case serviceAnswer a => exact (htake _).of_kept (State.takeAnswer_kept _ a)
  case stepTimerExpiry m => exact (hstamp m).of_kept (State.takeStepExpiry_kept _ m)
  case abortEvent a => exact State.takeInTurn_of hs ((htake _).of_kept (State.takeAbort_kept _ a))
  case samplePeriodChange | lanePhaseCopy | phaseHandoff | capStepHandoff | modeChangeToDriver =>
    exact State.takeInTurn_of hs (hs.of_frame (by simp) (by simp))
  case faultNotice | causeCleared | endOfStarting | quietEntry | quietExit | serviceEntry | serviceExit =>
    split <;> exact hs.of_frame (by simp) (by simp)
  all_goals exact hs.of_frame (by simp) (by simp)

/-- Settles O5: every command keeps the law; those that transmit by what they leave in flight, those of the alert queue by
the distinctness of its alerts, and any other by the little of the link it writes. -/
theorem stepKeepsLinkLaw : Obligations.StepKeepsLinkLaw := by
  intro s t hs h
  unfold step at h
  split at h
  · obtain rfl := Host.Outcome.next.inj h
    exact hs
  · refine exec_keeps_linkLaw ?_ h
    exact hs.of_frame rfl rfl

end Sys2Proof.Machine

namespace Sys2Proof.Machine

/-! ## Bits of numbers and frames (R115, R116) -/

@[simp] theorem natBits_length (w n : Nat) : (natBits w n).length = w := by simp [natBits]

theorem natBits_succ (w n : Nat) : natBits (w + 1) n = natBits w (n / 2) ++ [n.testBit 0] := by
  have hbit : ∀ i ∈ List.range w, n.testBit (w + 1 - 1 - i) = (n / 2).testBit (w - 1 - i) := fun i hi => by
    have hlt := List.mem_range.1 hi
    rw [← Nat.testBit_succ]
    congr 1
    omega
  rw [natBits, List.range_succ, List.map_append, List.map_congr_left hbit, natBits]
  simp

theorem bitsNat_concat (bits : List Bit) (b : Bit) : bitsNat (bits ++ [b]) = 2 * bitsNat bits + b.toNat := by
  simp [bitsNat]

/-- The low bits of a number spell it again. -/
theorem bitsNat_natBits (w n : Nat) : bitsNat (natBits w n) = n % 2 ^ w := by
  induction w generalizing n with
  | zero => simp [natBits, bitsNat, Nat.mod_one]
  | succ w ih =>
    rw [natBits_succ, bitsNat_concat, ih, Nat.pow_succ', Nat.mod_mul, Nat.testBit_zero]
    rcases Nat.mod_two_eq_zero_or_one n with h | h <;> simp [h, Nat.add_comm]

@[simp] theorem byteBits_length (b : Byte) : (byteBits b).length = 8 := natBits_length ..

theorem bitsNat_byteBits (b : Byte) : bitsNat (byteBits b) = b.toNat := by
  rw [byteBits, bitsNat_natBits, Nat.mod_eq_of_lt b.isLt]

theorem bytesBits_length (bs : List Byte) : (bytesBits bs).length = 8 * bs.length := by
  induction bs with
  | nil => rfl
  | cons b bs ih => simp [bytesBits] at ih ⊢; omega

/-- The bits of the byte at place `j` stand among the bits of the bytes. -/
theorem bytesBits_at {bs : List Byte} {j : Nat} (h : j < bs.length) :
    bytesBits bs = bytesBits (bs.take j) ++ byteBits bs[j] ++ bytesBits (bs.drop (j + 1)) := by
  calc bytesBits bs = bytesBits (bs.take j ++ bs[j] :: bs.drop (j + 1)) := by
        rw [← List.drop_eq_getElem_cons h, List.take_append_drop]
    _ = bytesBits (bs.take j) ++ byteBits bs[j] ++ bytesBits (bs.drop (j + 1)) := by
        simp only [bytesBits, List.flatMap_append, List.flatMap_cons, List.append_assoc]

/-- The bits read from where a part of them begins, as many as the part holds, are the part. -/
theorem bitsAt_eq {bits pre mid post : List Bit} {i k : Nat} (h : bits = pre ++ mid ++ post) (hi : i = pre.length)
    (hk : k = mid.length) : bitsAt bits i k = mid := by
  subst h hi hk
  refine List.ext_getElem (by simp [bitsAt]) fun j hj hmid => ?_
  simp [bitsAt, List.getD_eq_getElem?_getD, List.getElem?_append_right, List.getElem?_append_left hmid, hmid]

/-- What the receive side reads of the fields of a sent frame, with the bits `tail` in its end field (R115). -/
def Frame.readWith (f : Frame) (tail : List Bit) : ReadFrame :=
  { contention := f.contention.toNat, length := f.payload.length, payload := f.payload, check := f.check.toNat
    computed := (crcBits (checkedBits f.contention f.payload)).toNat, endRecessive := tail.all id }

theorem checkedBits_length (c : Byte) (p : List Byte) : (checkedBits c p).length = 12 + 8 * p.length := by
  simp [checkedBits, bytesBits_length]
  omega

/-- A frame as sent is read field by field (R115, R116). -/
theorem readFrame_sent (f : Frame) {tail : List Bit} (hlen : f.payload.length ≤ 14) (htail : tail.length = 7) :
    readFrame ([false] ++ checkedBits f.contention f.payload ++ natBits 16 f.check.toNat ++ tail) =
      f.readWith tail := by
  obtain ⟨c, p, k⟩ := f
  dsimp only at hlen ⊢
  obtain ⟨bits, hbits⟩ : ∃ bits, bits = [false] ++ checkedBits c p ++ natBits 16 k.toNat ++ tail := ⟨_, rfl⟩
  have hparts : bits = [false] ++ byteBits c ++ natBits 4 p.length ++ bytesBits p ++ natBits 16 k.toNat ++ tail := by
    simp [hbits, checkedBits]
  have hcontention : bitsAt bits 1 8 = byteBits c :=
    bitsAt_eq (pre := [false]) (post := natBits 4 p.length ++ bytesBits p ++ natBits 16 k.toNat ++ tail)
      (by simp [hparts]) rfl (by simp)
  have hlength : bitsAt bits 9 4 = natBits 4 p.length :=
    bitsAt_eq (pre := [false] ++ byteBits c) (post := bytesBits p ++ natBits 16 k.toNat ++ tail)
      (by simp [hparts]) (by simp) (by simp)
  have hbyte : ∀ (j : Nat) (h : j < p.length), bitsAt bits (13 + 8 * j) 8 = byteBits p[j] := fun j h =>
    bitsAt_eq (pre := [false] ++ byteBits c ++ natBits 4 p.length ++ bytesBits (p.take j))
      (post := bytesBits (p.drop (j + 1)) ++ natBits 16 k.toNat ++ tail)
      (by rw [hparts, bytesBits_at h]; simp) (by simp [bytesBits_length]; omega) (by simp)
  have hcheck : bitsAt bits (13 + 8 * p.length) 16 = natBits 16 k.toNat :=
    bitsAt_eq (pre := [false] ++ checkedBits c p) hbits (by simp [checkedBits_length]; omega) (by simp)
  have hcomputed : bitsAt bits 1 (12 + 8 * p.length) = checkedBits c p :=
    bitsAt_eq (pre := [false]) (post := natBits 16 k.toNat ++ tail) (by simp [hbits]) rfl (checkedBits_length c p).symm
  have hend : bitsAt bits (29 + 8 * p.length) 7 = tail :=
    bitsAt_eq (pre := [false] ++ checkedBits c p ++ natBits 16 k.toNat) (post := []) (by simp [hbits])
      (by simp [checkedBits_length]; omega) htail.symm
  have hnat : p.length % 2 ^ 4 = p.length ∧ k.toNat % 2 ^ 16 = k.toNat :=
    ⟨Nat.mod_eq_of_lt (by omega), Nat.mod_eq_of_lt k.isLt⟩
  rw [← hbits]
  simp only [readFrame, hcontention, hlength, bitsNat_byteBits, bitsNat_natBits, hnat, hcheck, hcomputed, hend,
    Frame.readWith, ReadFrame.mk.injEq, true_and, and_true]
  refine List.ext_getElem (by simp) fun j hj hp => ?_
  simp [hbyte j hp, bitsNat_byteBits, natByte]

/-- A frame whose length field is all recessive is read with the invalid length 15 (R115, R127). -/
theorem readFrame_tooLong {field : List Bit} (h : field.length = 8) :
    (readFrame ([false] ++ field ++ [true, true, true, true])).length = 15 := by
  have hfield : bitsAt ([false] ++ field ++ [true, true, true, true]) 9 4 = [true, true, true, true] :=
    bitsAt_eq (post := []) (List.append_nil _).symm (by simp [h]) rfl
  simp only [readFrame, hfield]
  rfl

/-! ## The line over bits (R113, R114) -/

theorem foldl_lineBit_idle (j : Nat) : (List.replicate j true).foldl lineBit .idle = .idle := by
  induction j with
  | zero => rfl
  | succ j ih => exact ih

/-- Recessive bits raise the count of a settling line until it is IDLE (R113). -/
theorem foldl_lineBit_settling (n k j : Nat) : (List.replicate j true).foldl lineBit (.settling n k) =
    if j = 0 ∨ k + j < n then .settling n (k + j) else .idle := by
  induction j generalizing k with
  | zero => simp
  | succ j ih =>
    rw [List.replicate_succ, List.foldl_cons, lineBit]
    split
    · rw [foldl_lineBit_idle, if_neg (by omega)]
    · rw [ih]
      by_cases h : j = 0 ∨ k + 1 + j < n
      · rw [if_pos h, if_pos (by omega), Nat.add_right_comm, Nat.add_assoc]
      · rw [if_neg h, if_neg (by omega)]

/-- A recessive last bit returns the stuck timer and its mark (R114). -/
theorem State.timeStuck_concat (s : State) (bits : List Bit) :
    s.timeStuck (bits ++ [true]) = { s with link := { s.link with stuck := 0, stuckTaken := false } } := by
  simp [State.timeStuck, stuckBit]

/-! ## A frame judged and dispatched (R127, R128) -/

/-- The line and its marks after a frame that ends with a recessive bit (R113, R114). -/
def State.afterFrame (s : State) (x : LineState) : State :=
  { s with link := { s.link with line := x, ownSending := false, stuck := 0, stuckTaken := false } }

/-- A frame is read whole unless the line settles (R113, R127). -/
theorem State.takeFrame_framed {s : State} (hon : s.unitsOn = true) (hline : s.link.line = .idle ∨ s.link.line = .frame)
    (bits : List Bit) : s.takeFrame (false :: bits) = ((s.judgeFrame (readFrame (false :: bits))).endFrame
      (readFrame (false :: bits))).timeStuck (false :: bits) := by
  rcases hline with h | h <;> simp [State.takeFrame, hon, h]

theorem State.takeFrame_settling {s : State} (hon : s.unitsOn = true) {n k : Nat} (hline : s.link.line = .settling n k)
    (bits : List Bit) : s.takeFrame bits = (s.settleLine (bits.foldl lineBit (.settling n k))).timeStuck bits := by
  simp [State.takeFrame, State.readBits, hon, hline]

theorem State.takeFrame_concat {s : State} (hon : s.unitsOn = true) (hline : s.link.line = .idle ∨ s.link.line = .frame)
    (bits : List Bit) : s.takeFrame (false :: (bits ++ [true])) =
      (s.judgeFrame (readFrame (false :: (bits ++ [true])))).afterFrame
        (lineAfterFrame (readFrame (false :: (bits ++ [true])))) := by
  rw [State.takeFrame_framed hon hline, ← List.cons_append, State.timeStuck_concat]
  rfl

/-- A bad frame counts one receive error (R127). -/
theorem State.judgeFrame_bad {s : State} {f : ReadFrame} (h : f.good = false) : s.judgeFrame f = s.addReceiveError := by
  simp [State.judgeFrame, h]

theorem State.judgeFrame_own {s : State} {f : ReadFrame} (h : f.good = true) (hown : s.link.ownSending = true) :
    s.judgeFrame f = s := by
  simp [State.judgeFrame, h, hown]

theorem State.judgeFrame_good {s : State} {f : ReadFrame} (h : f.good = true) (hown : s.link.ownSending = false) :
    s.judgeFrame f = s.dispatch (fieldKind f.contention) (fieldPosition f.contention) f.payload := by
  simp [State.judgeFrame, h, hown]

/-- A sent frame is good when its check agrees and its end field is recessive (R127). -/
theorem Frame.readWith_good {f : Frame} {tail : List Bit} (hlen : f.payload.length ≤ 14) :
    (f.readWith tail).good = true ↔ f.check = crcBits (checkedBits f.contention f.payload) ∧ ∀ b ∈ tail, b = true := by
  have hvalid : f.payload.length ≠ 15 := by omega
  simp [Frame.readWith, ReadFrame.good, hvalid, BitVec.toNat_inj]

section
variable {s : State} {sender : Fin 8} {payload : List Byte}

/-- A SERVICE_REPLY of another position is handed nowhere (R128). -/
theorem State.dispatch_reply (h : sender.val ≠ s.position.val) : s.dispatch 7 sender payload = s := by
  simp [State.dispatch, h, kindAlert, kindStatus, kindRequest, kindReply]

/-- Position 7 is no station's, so a SERVICE_REQ from it is a tool's (R128). -/
theorem State.dispatch_request : s.dispatch 6 7 payload = s.dispatchRequest payload := by
  simp [State.dispatch, kindAlert, kindStatus, kindRequest]

theorem State.dispatch_own {kind : Nat} (halert : kind ≠ 0) (hstatus : kind ≠ 1) (h : sender.val = s.position.val) :
    s.dispatch kind sender payload = s.hand [.faultNotice .positionClash] := by
  have htool : ¬ (kind = 6 ∧ sender.val = 7) := by have := s.position.isLt; omega
  simp only [State.dispatch, kindAlert, kindStatus, kindRequest, if_neg halert, if_neg hstatus, if_neg htool, if_pos h]

/-- A kind no station sends, or a SERVICE_REQ of another position, is foreign (R128). -/
theorem State.dispatch_foreign {kind : Nat} (hkind : kind ∈ [2, 3, 4, 5] ∨ kind = 6 ∧ sender ≠ 7)
    (h : sender.val ≠ s.position.val) : s.dispatch kind sender payload = s.addForeign 1 := by
  have hrest : kind ≠ 0 ∧ kind ≠ 1 ∧ ¬ (kind = 6 ∧ sender.val = 7) ∧ kind ≠ 7 := by
    simp only [List.mem_cons, List.not_mem_nil, or_false] at hkind
    omega
  obtain ⟨halert, hstatus, htool, hreply⟩ := hrest
  simp only [State.dispatch, kindAlert, kindStatus, kindRequest, if_neg halert, if_neg hstatus, if_neg htool, if_neg h]
  exact if_neg hreply

end

/-- The responder runs at every later stage than LISTENING (R184, R185). -/
theorem State.responderOn_iff {s : State} (hon : s.unitsOn = true) : s.responderOn = true ↔ s.startup.stage ≠ .listening := by
  unfold State.unitsOn at hon
  cases h : s.startup.stage <;> simp_all [State.responderOn]

/-- The command a request of three bytes names, kind by kind (R189). -/
theorem requestCommand_eq (b : Byte) (r : ServiceReq) : requestCommand b r =
    if b = 1#8 then .readRecord r else if b = 2#8 then .readStats r else if b = 3#8 then .clear r
    else if b = 4#8 then .restart r else if b = 5#8 ∧ (r.arg = 1#8 ∨ r.arg = 2#8) then .valveTest r
    else .badRequest b r := by
  have hnamed : (argChannel r.arg).isSome = true ↔ r.arg = 1#8 ∨ r.arg = 2#8 := by
    unfold argChannel
    split_ifs <;> simp [*]
  simp only [requestCommand, reqReadRecord, reqReadStats, reqClear, reqRestart, reqValveTest, hnamed]

/-! ## RECEIVE_FRAME (R113, R115, R116, R127, R128) -/

section
variable {s : State} (hon : s.unitsOn = true) (hline : s.link.line = .idle ∨ s.link.line = .frame)
include hon hline

/-- A frame as sent is judged as it is read back, and the line settles needing 3 (R113, R127). -/
theorem exec_receiveFrame_sent (m : Time) {f : Frame} (hlen : f.payload.length ≤ 14) :
    exec (.receiveFrame m (frameBits f)) s
      = .next (((s.stamp m).judgeFrame (f.readWith (List.replicate 7 true))).afterFrame (.settling 3 0)) := by
  have hvalid : f.payload.length ≠ 15 := by omega
  have hread : readFrame (frameBits f) = f.readWith (List.replicate 7 true) := readFrame_sent f hlen rfl
  have hbits : frameBits f = false :: (checkedBits f.contention f.payload ++ natBits 16 f.check.toNat
      ++ List.replicate 6 true ++ [true]) := by simp [frameBits, List.replicate]
  have htaken := State.takeFrame_concat (s := s.stamp m) hon hline
    (checkedBits f.contention f.payload ++ natBits 16 f.check.toNat ++ List.replicate 6 true)
  rw [← hbits, hread] at htaken
  refine congrArg Host.Outcome.next (htaken.trans ?_)
  simp [lineAfterFrame, Frame.readWith, hvalid]

/-- A frame whose check disagrees counts one receive error (R116, R127). -/
theorem exec_receiveFrame_badCheck (m : Time) {f : Frame} (hlen : f.payload.length ≤ 14)
    (hcheck : f.check ≠ crcBits (checkedBits f.contention f.payload)) :
    exec (.receiveFrame m (frameBits f)) s = .next ((s.stamp m).addReceiveError.afterFrame (.settling 3 0)) := by
  have hgood : (f.readWith (List.replicate 7 true)).good = false := by
    rw [Bool.eq_false_iff, Ne, Frame.readWith_good hlen]
    exact fun h => hcheck h.1
  rw [exec_receiveFrame_sent hon hline m hlen, State.judgeFrame_bad hgood]

/-- Own read-back is not handed on (R127; log entry 13). -/
theorem exec_receiveFrame_own (m : Time) {f : Frame} (hlen : f.payload.length ≤ 14)
    (hcheck : f.check = crcBits (checkedBits f.contention f.payload)) (hown : s.link.ownSending = true) :
    exec (.receiveFrame m (frameBits f)) s = .next ((s.stamp m).afterFrame (.settling 3 0)) := by
  have hgood : (f.readWith (List.replicate 7 true)).good = true := (Frame.readWith_good hlen).2 ⟨hcheck, by decide⟩
  rw [exec_receiveFrame_sent hon hline m hlen, State.judgeFrame_own (s := s.stamp m) hgood hown]

/-- A good frame of another sender is dispatched by the kind and position of its contention field (R128). -/
theorem exec_receiveFrame_good (m : Time) {f : Frame} (hlen : f.payload.length ≤ 14)
    (hcheck : f.check = crcBits (checkedBits f.contention f.payload)) (hown : s.link.ownSending = false) :
    exec (.receiveFrame m (frameBits f)) s = .next (((s.stamp m).dispatch (fieldKind f.contention.toNat)
      (fieldPosition f.contention.toNat) f.payload).afterFrame (.settling 3 0)) := by
  have hgood : (f.readWith (List.replicate 7 true)).good = true := (Frame.readWith_good hlen).2 ⟨hcheck, by decide⟩
  rw [exec_receiveFrame_sent hon hline m hlen, State.judgeFrame_good (s := s.stamp m) hgood hown]
  rfl

/-- A frame with a dominant bit in its end field counts one receive error (R127). -/
theorem exec_receiveFrame_badEnd (m : Time) {f : Frame} {tail : List Bit} (hlen : f.payload.length ≤ 14)
    (htail : tail.length = 7) (hbad : false ∈ tail) :
    exec (.receiveFrame m ([false] ++ checkedBits f.contention f.payload ++ natBits 16 f.check.toNat ++ tail)) s = .next
      (((s.stamp m).addReceiveError.endFrame (f.readWith tail)).timeStuck
        ([false] ++ checkedBits f.contention f.payload ++ natBits 16 f.check.toNat ++ tail)) := by
  have hgood : (f.readWith tail).good = false := by
    rw [Bool.eq_false_iff, Ne, Frame.readWith_good hlen]
    rintro ⟨-, hall⟩
    cases hall false hbad
  have htaken := State.takeFrame_framed (s := s.stamp m) hon hline
    (checkedBits f.contention f.payload ++ natBits 16 f.check.toNat ++ tail)
  rw [show false :: (checkedBits f.contention f.payload ++ natBits 16 f.check.toNat ++ tail)
    = [false] ++ checkedBits f.contention f.payload ++ natBits 16 f.check.toNat ++ tail by simp,
    readFrame_sent f hlen htail, State.judgeFrame_bad hgood] at htaken
  exact congrArg Host.Outcome.next htaken

/-- A frame with the invalid length 15 counts one receive error, and the line settles needing 10 (R113, R127). -/
theorem exec_receiveFrame_tooLong (m : Time) {field : List Bit} (hfield : field.length = 8) :
    exec (.receiveFrame m ([false] ++ field ++ [true, true, true, true])) s
      = .next ((s.stamp m).addReceiveError.afterFrame (.settling 10 0)) := by
  have hlength := readFrame_tooLong hfield
  have hgood : (readFrame ([false] ++ field ++ [true, true, true, true])).good = false := by
    rw [ReadFrame.good, hlength]
    rfl
  have htaken := State.takeFrame_concat (s := s.stamp m) hon hline (field ++ [true, true, true])
  rw [show false :: (field ++ [true, true, true] ++ [true]) = [false] ++ field ++ [true, true, true, true] by simp,
    State.judgeFrame_bad hgood, lineAfterFrame, if_pos hlength] at htaken
  exact congrArg Host.Outcome.next htaken

end

/-- Bits read while SETTLING write the line and its marks alone (R113). -/
theorem exec_receiveFrame_settling {s : State} (hon : s.unitsOn = true) {n k : Nat} (hline : s.link.line = .settling n k)
    (m : Time) (bits : List Bit) : exec (.receiveFrame m bits) s
      = .next (((s.stamp m).settleLine (bits.foldl lineBit (.settling n k))).timeStuck bits) :=
  congrArg Host.Outcome.next (State.takeFrame_settling (s := s.stamp m) hon hline bits)

theorem State.settleLine_timeStuck_frame (s : State) (x : LineState) (bits : List Bit) :
    ((s.settleLine x).timeStuck bits).link.line = x ∧ (s.settleLine x).timeStuck bits = { s with link := { s.link with
      line := ((s.settleLine x).timeStuck bits).link.line, stuck := ((s.settleLine x).timeStuck bits).link.stuck
      stuckTaken := ((s.settleLine x).timeStuck bits).link.stuckTaken
      idleSince := ((s.settleLine x).timeStuck bits).link.idleSince
      awaitIdle := ((s.settleLine x).timeStuck bits).link.awaitIdle } } := by
  unfold State.settleLine
  split <;> exact ⟨rfl, rfl⟩

/-- A SERVICE_REQ of the tool at each stage and length (R128, R185, R198; log entry 23). -/
theorem State.dispatchRequest_listening {s : State} (h : s.startup.stage = .listening) (payload : List Byte) :
    s.dispatchRequest payload = s := by
  simp [State.dispatchRequest, State.responderOn, h]

theorem State.dispatchRequest_three {s : State} (hon : s.responderOn = true) (a b c : Byte) :
    s.dispatchRequest [a, b, c] = s.hand [requestCommand b ⟨3, a, c⟩] := by
  simp [State.dispatchRequest, hon, byteAt]

theorem State.dispatchRequest_badLength {s : State} (hon : s.responderOn = true) {payload : List Byte}
    (h : payload.length ≠ 3) : s.dispatchRequest payload = s.addReceiveError := by
  simp [State.dispatchRequest, hon, h]

/-- Settles O44: a sent frame is read back field by field and dispatched by its contention field. -/
theorem receivedFrameIsDispatched : Obligations.ReceivedFrameIsDispatched := by
  refine ⟨?_, ?_⟩
  · intro m f kind sender s s1 hon hline hlen hkind hsender hs1
    replace hs1 : s1 = (s.stamp m).afterFrame (.settling 3 0) := hs1
    refine ⟨fun hcheck => ?_, fun hcheck => ⟨fun hown => ?_, fun hown => ?_⟩, fun tail htail hbad => ?_,
      fun field hfield => ?_⟩
    · rw [exec_receiveFrame_badCheck hon hline m hlen hcheck, hs1]
      rfl
    · rw [exec_receiveFrame_own hon hline m hlen hcheck hown, hs1]
    · have hexec := exec_receiveFrame_good hon hline m hlen hcheck hown
      rw [show fieldKind f.contention.toNat = kind by rw [hkind, fieldKind, bitsOf_eq]; rfl,
        show fieldPosition f.contention.toNat = sender from Fin.ext hsender.symm] at hexec
      have hresponder : s.startup.stage ≠ .listening → (s.stamp m).responderOn = true :=
        (State.responderOn_iff (s := s.stamp m) hon).2
      rw [hexec, hs1]
      refine ⟨?_, ?_, ?_, ?_, ?_, ?_, fun halert hstatus hposition => ?_, fun hforeign hposition => ?_⟩
      · rintro rfl
        rfl
      · rintro rfl
        rfl
      · rintro rfl rfl hlisten
        rw [State.dispatch_request, State.dispatchRequest_listening (s := s.stamp m) hlisten]
      · rintro a b c rfl rfl hpayload hstage
        rw [State.dispatch_request, hpayload, State.dispatchRequest_three (hresponder hstage), requestCommand_eq]
        rfl
      · rintro rfl rfl hpayload hstage
        rw [State.dispatch_request, State.dispatchRequest_badLength (hresponder hstage) hpayload]
        rfl
      · rintro rfl hposition
        rw [State.dispatch_reply (s := s.stamp m) hposition]
      · rw [State.dispatch_own (s := s.stamp m) halert hstatus hposition]
        rfl
      · rw [State.dispatch_foreign (s := s.stamp m) hforeign hposition]
        rfl
    · have hsettles : lineAfterFrame (f.readWith tail) = .settling 3 0 := if_neg (show f.payload.length ≠ 15 by omega)
      rw [exec_receiveFrame_badEnd hon hline m hlen htail hbad, State.endFrame, hsettles, hs1]
      exact ⟨_, _, rfl⟩
    · rw [exec_receiveFrame_tooLong hon hline m hfield, hs1]
      rfl
  · intro m bits n k s hon hline
    obtain ⟨hsettled, hframe⟩ := (s.stamp m).settleLine_timeStuck_frame (bits.foldl lineBit (.settling n k)) bits
    refine ⟨_, exec_receiveFrame_settling hon hline m bits, hframe, ?_⟩
    rintro j rfl
    rw [hsettled, List.foldl_cons, lineBit, foldl_lineBit_settling, Nat.zero_add]
    exact ⟨fun h => if_pos (.inr h), fun h1 hn => if_neg (by omega)⟩

end Sys2Proof.Machine

namespace Sys2Proof.Machine

/-! ## LINE_IDLE and STUCK_EXPIRY (R113, R114) -/

theorem exec_lineIdle_settling {s : State} (hon : s.unitsOn = true) {n k : Nat} (hline : s.link.line = .settling n k)
    (m : Time) (bits : List Bit) : exec (.lineIdle m bits) s
      = .next (((s.stamp m).settleLine (bits.foldl lineBit (.settling n k))).timeStuck bits) := by
  rw [← hline]
  exact congrArg Host.Outcome.next (if_pos hon)

/-- A line that leaves SETTLING for IDLE does so now, and ends a wait for the next idle (R113, R126). -/
theorem State.settleLine_idle {s : State} (h : s.link.line ≠ .idle) :
    s.settleLine .idle = { s with link := { s.link with line := .idle, idleSince := some s.now, awaitIdle := false } } :=
  if_pos ⟨rfl, h⟩

theorem State.settleLine_settling (s : State) (n k : Nat) :
    s.settleLine (.settling n k) = s.setLine (.settling n k) :=
  if_neg fun h => nomatch h.1

/-- The recessive bits still needed bring the line to IDLE (R113). -/
theorem exec_lineIdle_idle {s : State} (hon : s.unitsOn = true) {need seen n : Nat}
    (hline : s.link.line = .settling need seen) (hneed : seen + n + 1 = need) (m : Time) :
    exec (.lineIdle m (List.replicate (n + 1) true)) s = .next { s with now := m, link := { s.link with
      line := .idle, stuck := 0, stuckTaken := false, idleSince := some m, awaitIdle := false } } := by
  have hsettling : (s.stamp m).link.line ≠ .idle := by simp [hline]
  rw [exec_lineIdle_settling hon hline, foldl_lineBit_settling, if_neg (by omega), State.settleLine_idle hsettling,
    List.replicate_succ', State.timeStuck_concat]
  rfl

/-- A dominant bit returns the count of a settling line (R113). -/
theorem exec_lineIdle_dominant {s : State} (hon : s.unitsOn = true) {need seen : Nat}
    (hline : s.link.line = .settling need seen) (m : Time) : exec (.lineIdle m [false]) s = .next
      { s with now := m, link := { s.link with line := .settling need 0, stuck := min 10000 (s.link.stuck + 4) } } := by
  have hcount : [false].foldl lineBit (.settling need seen) = .settling need 0 := rfl
  rw [exec_lineIdle_settling hon hline, hcount, State.settleLine_settling]
  rfl

theorem exec_stuckExpiry_taken {s : State} (hon : s.unitsOn = true) (h : s.link.stuckTaken = false) (m : Time) :
    exec (.stuckExpiry m) s = .next
      { s with now := m, link := { s.link with line := .settling 10 0, stuck := 10000, stuckTaken := true },
               handed := s.handed ++ [.faultNotice (.observation .linkSilent)] } := by
  have hdue : ((s.stamp m).unitsOn && !(s.stamp m).link.stuckTaken) = true := by
    rw [Bool.and_eq_true, Bool.not_eq_true']
    exact ⟨hon, h⟩
  exact congrArg Host.Outcome.next (if_pos hdue)

/-- A stuck line is raised once, and not before the receive side runs (R114; log entries 7 and 12). -/
theorem exec_stuckExpiry_void {s : State} (h : s.unitsOn = false ∨ s.link.stuckTaken = true) (m : Time) :
    exec (.stuckExpiry m) s = .next { s with now := m } := by
  have hvoid : ¬ ((s.stamp m).unitsOn && !(s.stamp m).link.stuckTaken) = true := by
    rw [Bool.and_eq_true, Bool.not_eq_true']
    rintro ⟨hon, htaken⟩
    rcases h with h | h
    · exact Bool.false_ne_true (h.symm.trans hon)
    · exact Bool.false_ne_true (htaken.symm.trans h)
  exact congrArg Host.Outcome.next (if_neg hvoid)

theorem exec_lineIdle_void {s : State} (hoff : s.unitsOn = false) (m : Time) (bits : List Bit) :
    exec (.lineIdle m bits) s = .next { s with now := m } :=
  congrArg Host.Outcome.next (if_neg (Bool.not_eq_true _ ▸ hoff : ¬ (s.stamp m).unitsOn = true))

/-! ## SILENCE_EXPIRY (R125, R126) -/

theorem State.idleTakenAt_eq (s : State) (t : Time) :
    s.idleTakenAt t = decide (s.link.line = .idle ∧ s.link.idleSince = some t) :=
  (Bool.decide_and ..).symm

theorem exec_silenceExpiry_due {s : State} {m : Time} (htx : s.link.tx = .silent)
    (hdue : timerDue s.link.silence m = true) : exec (.silenceExpiry m) s = .next
      { s with now := m, link := { s.link with
          tx := .enabled, consecutive := 0, silence := none
          awaitIdle := decide (s.link.line = .idle ∧ s.link.idleSince = some m) } } := by
  have hends : (decide ((s.stamp m).link.tx = .silent) && timerDue (s.stamp m).link.silence m) = true := by
    simp [htx, hdue]
  refine congrArg Host.Outcome.next ((if_pos hends).trans ?_)
  rw [State.idleTakenAt_eq]
  rfl

theorem exec_silenceExpiry_void {s : State} {m : Time} (h : s.link.tx ≠ .silent ∨ timerDue s.link.silence m = false) :
    exec (.silenceExpiry m) s = .next { s with now := m } := by
  have hvoid : ¬ (decide ((s.stamp m).link.tx = .silent) && timerDue (s.stamp m).link.silence m) = true := by
    rcases h with h | h <;> simp [h]
  exact congrArg Host.Outcome.next (if_neg hvoid)

/-- Settles O45: the line by its recessive bits, the stuck line by its mark, the silence by its timer, and the void
commands. -/
theorem lineAndTransmitterRecover : Obligations.LineAndTransmitterRecover := fun m _ =>
  ⟨fun _ _ _ hon hline hneed => exec_lineIdle_idle hon hline hneed m,
    fun _ _ hon hline => exec_lineIdle_dominant hon hline m,
    fun hon htaken => exec_stuckExpiry_taken hon htaken m,
    fun htaken => exec_stuckExpiry_void (.inr htaken) m,
    exec_silenceExpiry_due, exec_silenceExpiry_void,
    fun hoff => ⟨exec_stuckExpiry_void (.inl hoff) m, exec_lineIdle_void hoff m⟩⟩

/-! ## TRANSMIT_START (R118 to R120, R141) -/

theorem exec_transmitStart_void {s : State} {m : Time} (h : s.mayStart = false) :
    exec (.transmitStart m) s = .next { s with now := m } :=
  congrArg Host.Outcome.next (if_neg (Bool.not_eq_true _ ▸ h : ¬ (s.stamp m).mayStart = true))

theorem exec_transmitStart_starts {s : State} {m : Time} (h : s.mayStart = true) :
    exec (.transmitStart m) s = .next (s.stamp m).startChosen.beginSending :=
  congrArg Host.Outcome.next (if_pos (show (s.stamp m).mayStart = true from h))

theorem State.alertOffered_iff (s : State) :
    s.alertOffered = true ↔ s.composer.queue ≠ [] ∧ s.composer.group = [] := by
  simp [State.alertOffered]

/-- No slot offers a frame: no alert that may go, no STATUS and no reply (R119). -/
theorem State.frameOffered_eq_false (s : State) : s.frameOffered = false ↔
    s.alertOffered = false ∧ s.link.status.waiting = none ∧ s.link.reply.waiting = none := by
  simp [State.frameOffered, and_assoc]

/-- The ALERT slot comes first (R119). -/
theorem State.startChosen_alert {s : State} (h : s.alertOffered = true) : s.startChosen = s.startAlert := if_pos h

theorem State.startChosen_status {s : State} {r : StatusReport} (h : s.alertOffered = false)
    (hstatus : s.link.status.waiting = some r) : s.startChosen = s.startStatus r := by
  simp [State.startChosen, h, hstatus]

theorem State.startChosen_reply {s : State} {r : Reply} (h : s.alertOffered = false)
    (hstatus : s.link.status.waiting = none) (hreply : s.link.reply.waiting = some r) : s.startChosen = s.startReply r := by
  simp [State.startChosen, h, hstatus, hreply]

/-- A channel in an anti-lock phase gives a STATUS urgency 1 (R120). -/
theorem State.statusUrgency_eq (s : State) : s.statusUrgency =
    if s.slip.ch1.phase ∈ [Phase.hold, .release, .recover, .reapply]
      ∨ s.slip.ch2.phase ∈ [Phase.hold, .release, .recover, .reapply] then 1 else 2 := by
  have hphase : ∀ p, isAntiLock p = decide (p ∈ [Phase.hold, .release, .recover, .reapply]) := fun p => by
    cases p <;> rfl
  simp only [State.statusUrgency, State.antiLockActive, hphase, Bool.or_eq_true, decide_eq_true_eq]

/-- Settles O46: the first slot that offers a frame is chosen, and nothing starts where R119 forbids it. -/
theorem transmitStartTakesFirstSlot : Obligations.TransmitStartTakesFirstSlot := by
  refine ⟨?_, ?_⟩
  · rintro m p s rfl htx hline hawait hstatus halert hreply hgroup
    have hmay : s.frameOffered = true → s.mayStart = true := fun hoffered =>
      s.mayStart_iff.2 ⟨htx, hline, hawait, hoffered, s.framesInFlight_eq_zero.2 ⟨hstatus, halert, hreply⟩⟩
    have hnoAlert : s.composer.queue = [] → (s.stamp m).alertOffered = false := fun hqueue => by
      simp [State.alertOffered, hqueue]
    refine ⟨fun hqueue => ?_, fun r urgency hqueue hwaiting hurgency => ?_, fun r hqueue hnone hwaiting => ?_,
      fun hqueue hnoStatus hnoReply => ?_⟩
    · have hoffered : s.alertOffered = true := s.alertOffered_iff.2 ⟨hqueue, hgroup⟩
      rw [exec_transmitStart_starts (hmay (by simp [State.frameOffered, hoffered])),
        State.startChosen_alert (s := s.stamp m) hoffered]
      exact ⟨_, rfl, by simp [mkFrame, contentionField, kindAlert, natByte, State.position], rfl, rfl⟩
    · rw [exec_transmitStart_starts (hmay (by simp [State.frameOffered, hwaiting])),
        State.startChosen_status (hnoAlert hqueue) hwaiting]
      refine ⟨_, rfl, ?_, rfl, rfl⟩
      rw [hurgency, ← s.statusUrgency_eq]
      rfl
    · rw [exec_transmitStart_starts (hmay (by simp [State.frameOffered, hwaiting])),
        State.startChosen_reply (hnoAlert hqueue) hnone hwaiting]
      exact ⟨_, rfl, rfl, rfl, rfl⟩
    · have hnoOffer := s.frameOffered_eq_false.2 ⟨hnoAlert hqueue, hnoStatus, hnoReply⟩
      exact exec_transmitStart_void (by simp [State.mayStart, hnoOffer])
  · intro m s hforbidden
    refine exec_transmitStart_void ?_
    rw [Bool.eq_false_iff, Ne, s.mayStart_iff]
    rintro ⟨htx, hline, hawait, hoffered, hnone⟩
    rcases hforbidden with h | h | h | h | ⟨hgroup, hnoStatus, hnoReply⟩
    · exact h htx
    · exact h hline
    · exact Bool.false_ne_true (hawait.symm.trans h)
    · exact h hnone
    · have hnoAlert : s.alertOffered = false := by simp [State.alertOffered, hgroup]
      exact Bool.false_ne_true ((s.frameOffered_eq_false.2 ⟨hnoAlert, hnoStatus, hnoReply⟩).symm.trans hoffered)

end Sys2Proof.Machine

namespace Sys2Proof.Machine

/-! ## CONTENTION_LOSS and TRANSMIT_ERROR (R117, R118, R121 to R123) -/

theorem State.sentBit_eq {s : State} {f : Frame} (h : s.frameInFlight = some f) (k : Nat) :
    s.sentBit k = (frameBits f)[k]? := by
  simp [State.sentBit, h]

/-- A recessive contention bit read dominant loses the contention (R121). -/
theorem State.loseContention_lost {s : State} {k : Fin 8} (h : s.sentBit (k.val + 1) = some true) :
    s.loseContention k = s.returnFrame .lost := by
  simp [State.loseContention, h, contentionOutcome]

theorem State.loseContention_void {s : State} {k : Fin 8} (h : s.sentBit (k.val + 1) = some false) :
    s.loseContention k = s := by
  simp [State.loseContention, h, contentionOutcome]

/-- A loss is no transmit error (R122). -/
theorem State.takeMismatch_void {s : State} {k : Fin 8} (h : s.sentBit (k.val + 1) = some true) (t : Time) :
    s.takeMismatch t (k.val + 1) = s := by
  have hloss : mismatchIsError (k.val + 1) true = false := by
    simp [mismatchIsError]
  simp [State.takeMismatch, h, hloss]

/-- Any other mismatch is an error: the start bit, a dominant contention bit, and every later bit (R122). -/
theorem State.takeMismatch_error {s : State} {f : Frame} (hframe : s.frameInFlight = some f) {j : Nat}
    (h : j = 0 ∨ (1 ≤ j ∧ j ≤ 8 ∧ (frameBits f)[j]? = some false) ∨ (9 ≤ j ∧ j < (frameBits f).length)) (t : Time) :
    s.takeMismatch t j = (s.countTransmitError t).reframe j := by
  obtain ⟨b, hbit, herror⟩ : ∃ b, s.sentBit j = some b ∧ mismatchIsError j b = true := by
    rw [State.sentBit_eq hframe]
    rcases h with rfl | ⟨-, -, hbit⟩ | ⟨hlate, hlt⟩
    · exact ⟨false, by simp [frameBits], rfl⟩
    · exact ⟨false, hbit, by simp [mismatchIsError]⟩
    · exact ⟨_, List.getElem?_eq_getElem hlt, by simp [mismatchIsError]; omega⟩
  simp [State.takeMismatch, hbit, herror]

theorem State.reframe_eq (s : State) (k : Nat) :
    s.reframe k = { s with link := { s.link with line := if k = 0 then .idle else s.link.line } } := by
  unfold State.reframe
  split
  · rfl
  · rfl

section
variable {s u : State} (hu : s.returnFrame .failed = u)
include hu

/-- Every error is counted, and one before the eighth in a row leaves the transmitter ENABLED (R123). -/
theorem State.countTransmitError_below (h : s.link.consecutive < 7) (t : Time) : s.countTransmitError t =
    { u with link := { u.link with
        consecutive := s.link.consecutive + 1
        stats := { u.link.stats with transmitErrors := min 65535 (u.link.stats.transmitErrors + 1) } } } := by
  have hcount : countError s.link.consecutive = s.link.consecutive + 1 := Nat.min_eq_right (by omega)
  have hbelow : s.link.consecutive + 1 ≠ 8 := by omega
  simp only [State.countTransmitError, State.judgeSilence, hcount, if_neg hbelow, hu]
  rfl

/-- The eighth error in a row silences the transmitter for 1000 ms and raises LINK_SILENT (R123, R126). -/
theorem State.countTransmitError_eighth (h : s.link.consecutive = 7) (t : Time) : s.countTransmitError t =
    { u with
      link := { u.link with
        consecutive := 8, tx := .silent, silence := some ⟨t, 1000000⟩
        stats := { u.link.stats with transmitErrors := min 65535 (u.link.stats.transmitErrors + 1) } }
      handed := u.handed ++ [.faultNotice (.observation .linkSilent)] } := by
  have hcount : countError s.link.consecutive = 8 := by rw [h]; rfl
  simp only [State.countTransmitError, State.judgeSilence, hcount, if_true, hu]
  rfl

end

/-- The frame `f` is in flight, and its return without success leaves the link `l` and hands `lost` or `failed`. -/
structure State.Returns (s : State) (f : Frame) (l : Link) (lost failed : List Instr) : Prop where
  frame : s.frameInFlight = some f
  lost : s.returnFrame .lost = { s with link := l, handed := s.handed ++ lost }
  failed : s.returnFrame .failed = { s with link := l, handed := s.handed ++ failed }
  line : l.line = s.link.line
  stats : l.stats = s.link.stats

/-- A body comes back to waiting, unless a newer one waits (R117). -/
theorem slotReturn_inFlight {α : Type} {x : Slot α} {f : InFlight α} {w : Option α} (hx : x.inFlight = some f)
    (hw : w = x.waiting.or (some f.body)) :
    slotReturn x = { inFlight := none, waiting := w } := by
  obtain ⟨i, v⟩ := x
  subst hx hw
  cases v <;> rfl

/-- A slot with nothing in flight is left as it is. -/
theorem slotReturn_none {α : Type} {x : Slot α} (hx : x.inFlight = none) : slotReturn x = x := by
  obtain ⟨i, v⟩ := x
  subst hx
  rfl

section
variable {s : State}

theorem State.returns_status {x : InFlight StatusReport} {w : Option StatusReport} (halert : s.link.alert = none)
    (hstatus : s.link.status.inFlight = some x) (hreply : s.link.reply.inFlight = none)
    (hw : w = s.link.status.waiting.or (some x.body)) :
    s.Returns x.frame { s.link with status := { inFlight := none, waiting := w }, ownSending := false } [] [] := by
  have hreturn : ∀ o, s.returnFrame o =
      { s with link := { s.link with status := { inFlight := none, waiting := w }, ownSending := false } } := fun o => by
    simp [State.returnFrame, slotReturn_inFlight hstatus hw, slotReturn_none hreply, halert]
  exact ⟨by simp [State.frameInFlight, halert, hstatus], by simp [hreturn], by simp [hreturn], rfl, rfl⟩

theorem State.returns_alert {f : Frame} (halert : s.link.alert = some f) (hstatus : s.link.status.inFlight = none)
    (hreply : s.link.reply.inFlight = none) :
    s.Returns f { s.link with alert := none, ownSending := false } [.alertReturned .lost] [.alertReturned .failed] := by
  have hreturn : ∀ o, s.returnFrame o = { s with
      link := { s.link with alert := none, ownSending := false }, handed := s.handed ++ [.alertReturned o] } := fun o => by
    simp [State.returnFrame, slotReturn_none hstatus, slotReturn_none hreply, halert, State.hand]
  exact ⟨by simp [State.frameInFlight, halert], hreturn .lost, hreturn .failed, rfl, rfl⟩

theorem State.returns_reply {x : InFlight Reply} {w : Option Reply} (halert : s.link.alert = none)
    (hstatus : s.link.status.inFlight = none) (hreply : s.link.reply.inFlight = some x)
    (hw : w = s.link.reply.waiting.or (some x.body)) :
    s.Returns x.frame { s.link with reply := { inFlight := none, waiting := w }, ownSending := false } [] [] := by
  have hreturn : ∀ o, s.returnFrame o =
      { s with link := { s.link with reply := { inFlight := none, waiting := w }, ownSending := false } } := fun o => by
    simp [State.returnFrame, slotReturn_inFlight hreply hw, slotReturn_none hstatus, halert]
  exact ⟨by simp [State.frameInFlight, halert, hstatus, hreply], by simp [hreturn], by simp [hreturn], rfl, rfl⟩

end

/-- Settles O47: the return of the frame by the slot it came from, then a loss or a counted error by the bit. -/
theorem lossAndErrorReturnFrame : Obligations.LossAndErrorReturnFrame := by
  intro m k j f l1 lost failed s hslot
  have hreturns : (s.stamp m).Returns f l1 lost failed := by
    rcases hslot with ⟨x, w, halert, hstatus, hreply, rfl, hw, rfl, rfl, rfl⟩ | ⟨halert, hstatus, hreply, rfl, rfl, rfl⟩
      | ⟨x, w, halert, hstatus, hreply, rfl, hw, rfl, rfl, rfl⟩
    · have hwaits : w = s.link.status.waiting.or (some x.body) := by
        rw [hw]
        cases s.link.status.waiting <;> rfl
      exact State.returns_status halert hstatus hreply hwaits
    · exact State.returns_alert halert hstatus hreply
    · have hwaits : w = s.link.reply.waiting.or (some x.body) := by
        rw [hw]
        cases s.link.reply.waiting <;> rfl
      exact State.returns_reply halert hstatus hreply hwaits
  obtain ⟨hframe, hlost, hfailed, hline, hstats⟩ := hreturns
  have hsent := State.sentBit_eq hframe
  refine ⟨fun hbit => ⟨?_, ?_⟩, fun hbit => ?_, fun hj => ⟨fun hcount => ?_, fun hcount => ?_⟩⟩
  · exact congrArg Host.Outcome.next ((State.loseContention_lost ((hsent _).trans hbit)).trans hlost)
  · exact congrArg Host.Outcome.next (State.takeMismatch_void ((hsent _).trans hbit) m)
  · exact congrArg Host.Outcome.next (State.loseContention_void ((hsent _).trans hbit))
  · refine congrArg Host.Outcome.next ((State.takeMismatch_error hframe hj m).trans ?_)
    rw [State.countTransmitError_below hfailed hcount, State.reframe_eq]
    simp only [hline, hstats]
    rfl
  · refine congrArg Host.Outcome.next ((State.takeMismatch_error hframe hj m).trans ?_)
    rw [State.countTransmitError_eighth hfailed hcount, State.reframe_eq]
    simp only [hline, hstats]
    rfl

/-! ## TRANSMIT_SUCCESS (R117, R118, R124) -/

/-- One frame is in flight exactly when one slot has one and the others none. -/
theorem State.framesInFlight_eq_one (s : State) : s.framesInFlight = 1 ↔
    (∃ f, s.link.alert = some f ∧ s.link.status.inFlight = none ∧ s.link.reply.inFlight = none)
    ∨ (∃ x, s.link.alert = none ∧ s.link.status.inFlight = some x ∧ s.link.reply.inFlight = none)
    ∨ ∃ x, s.link.alert = none ∧ s.link.status.inFlight = none ∧ s.link.reply.inFlight = some x := by
  unfold State.framesInFlight
  cases s.link.alert <;> cases s.link.status.inFlight <;> cases s.link.reply.inFlight <;> simp

/-- The success of the frame in flight leaves the line and goes to the block that supplied it (R124). -/
theorem exec_transmitSuccess {s : State} {c : Instr} (hframe : s.framesInFlight ≠ 0) (hnotice : s.successNotice = [c])
    (m : Time) : exec (.transmitSuccess m) s = .next
      { s with now := m
               link := { s.link with
                 consecutive := 0, alert := none, status := { s.link.status with inFlight := none },
                 reply := { s.link.reply with inFlight := none } }
               handed := s.handed ++ [c] } := by
  have hsome : (s.stamp m).frameInFlight.isSome = true := by
    rw [Option.isSome_iff_ne_none, Ne, State.frameInFlight_eq_none]
    exact hframe
  rw [← hnotice]
  exact congrArg Host.Outcome.next (if_pos hsome)

/-- Settles O48: the notice of a success by the slot whose frame is in flight. -/
theorem successIsHandedBack : Obligations.SuccessIsHandedBack := by
  refine ⟨fun m s hone => ?_, fun s => ?_⟩
  · have hframe : s.framesInFlight ≠ 0 := by omega
    rcases s.framesInFlight_eq_one.1 hone with ⟨f, halert, hstatus, hreply⟩ | ⟨x, halert, hstatus, hreply⟩
      | ⟨x, halert, hstatus, hreply⟩
    · have hnotice : s.successNotice = [.alertSent] := by simp only [State.successNotice, halert]
      exact ⟨_, exec_transmitSuccess hframe hnotice m, by simp [hstatus, hreply]⟩
    · have hnotice : s.successNotice = [.statusSuccessNotice] := by simp only [State.successNotice, halert, hstatus]
      exact ⟨_, exec_transmitSuccess hframe hnotice m, by simp [halert, hreply]⟩
    · have hnotice : s.successNotice = [.replySuccessNotice x.body.restartReply] := by simp only [State.successNotice, halert, hstatus, hreply]
      exact ⟨_, exec_transmitSuccess hframe hnotice m, by simp [halert, hstatus, hreply]⟩
  · have hsent : s.composer.sent + 1 = BitVec.ofNat 8 ((s.composer.sent.toNat + 1) % 256) := by
      apply BitVec.eq_of_toNat_eq
      simp [BitVec.toNat_add]
    rw [← hsent]
    rfl

end Sys2Proof.Machine

namespace Sys2Proof.Machine

/-! ## The queue and its drops (R129, R140) -/

/-- A queue that drops nothing leaves the statistics as they are. -/
theorem State.setQueue_noDrop {s : State} (h : s.link.stats.alertDrops ≤ 65535) (q : List Alert) :
    s.setQueue q 0 = { s with composer := { s.composer with queue := q } } := by
  have hcount : saturate16 s.link.stats.alertDrops 0 = s.link.stats.alertDrops := Nat.min_eq_right h
  simp only [State.setQueue, State.addAlertDrops, State.setStats, hcount]

/-- No waiting alert is the new one's event exactly when each differs from it in kind or in channel (R140). -/
theorem any_sameEvent_eq_false (a : Alert) (q : List Alert) :
    q.any (sameEvent a) = false ↔ ∀ b ∈ q, b.kind ≠ a.kind ∨ b.channel ≠ a.channel := by
  rw [List.any_eq_false]
  refine forall₂_congr fun b _ => ?_
  rw [sameEvent_comm, sameEvent_iff, not_and_or]

/-! ## ALERT_HANDED (R139, R140, R155) -/

theorem enqueueAlert_merges {a b : Alert} {q : List Alert} (hb : b ∈ q) (hkind : b.kind = a.kind)
    (hchannel : b.channel = a.channel) : enqueueAlert a q = (mergeAlert a q, 0) :=
  if_pos (List.any_eq_true.2 ⟨b, hb, (sameEvent_iff a b).2 ⟨hkind.symm, hchannel.symm⟩⟩)

section
variable {a : Alert} {q : List Alert} (hnew : ∀ b ∈ q, b.kind ≠ a.kind ∨ b.channel ≠ a.channel)
include hnew

theorem enqueueAlert_appends (hlen : q.length < 4) : enqueueAlert a q = (q ++ [a], 0) := by
  rw [enqueueAlert, (any_sameEvent_eq_false a q).2 hnew]
  exact if_pos hlen

theorem enqueueAlert_drops {old : Alert} {rest : List Alert} (hq : q = old :: rest) (hlen : rest.length = 3) :
    enqueueAlert a q = (rest ++ [a], 1) := by
  have hfull : ¬ q.length < 4 := by simp [hq, hlen]
  rw [enqueueAlert, (any_sameEvent_eq_false a q).2 hnew]
  refine (if_neg hfull).trans ?_
  rw [hq]
  rfl

end

theorem mergeAlert_eq (a : Alert) (q : List Alert) :
    mergeAlert a q = q.map fun x => if x.kind = a.kind ∧ x.channel = a.channel then { x with value := a.value } else x :=
  List.map_congr_left fun x _ => by
    rw [sameEvent_comm]
    exact if_congr (sameEvent_iff x a) rfl rfl

/-- The four sides of R139; channel 2 in JOINED has none (log entry 20). -/
theorem alertSide_eq {m : Arrangement} {ch : Option Channel} {side : AlertSide} (hmodule : ch = none → side = .none)
    (hleft : m = .split → ch = some .ch1 → side = .left) (hright : m = .split → ch = some .ch2 → side = .right)
    (hboth : m = .joined → ch ≠ none → side = .both) (hsends : m = .split ∨ ch ≠ some .ch2) :
    alertSide m ch = some side := by
  match m, ch with
  | .split, none | .joined, none => rw [hmodule rfl]; rfl
  | .split, some .ch1 => rw [hleft rfl rfl]; rfl
  | .split, some .ch2 => rw [hright rfl rfl]; rfl
  | .joined, some .ch1 => rw [hboth rfl nofun]; rfl
  | .joined, some .ch2 => exact absurd rfl (hsends.resolve_left nofun)

/-- An alert that has a side joins the queue with it (R139, R140). -/
theorem State.takeAlertHanded_queued {s : State} {k : AlertKind} {ch : Option Channel} {side : AlertSide} {v : Nat}
    {q : List Alert} {drops : Nat} (hside : alertSide s.arrangement ch = some side)
    (hqueue : enqueueAlert ⟨k, ch, side, alertValue k v⟩ s.composer.queue = (q, drops)) :
    s.takeAlertHanded k ch v = s.setQueue q drops := by
  simp only [State.takeAlertHanded, hside, hqueue]

/-- An alert without a side queues nothing (log entry 20). -/
theorem State.takeAlertHanded_sideless {s : State} {ch : Option Channel} (hside : alertSide s.arrangement ch = none)
    (k : AlertKind) (v : Nat) : s.takeAlertHanded k ch v = s := by
  simp only [State.takeAlertHanded, hside]

section
variable {s : State} {k : AlertKind} {ch : Option Channel} {v : Nat} (hbegun : s.begun = true)
  (hturn : s.inTurn (.alertHanded k ch v) = true)
include hbegun hturn

/-- An alert in its turn is taken by a composer that has begun (R155). -/
theorem exec_alertHanded :
    exec (.alertHanded k ch v) s = .next ((s.take (.alertHanded k ch v)).takeAlertHanded k ch v) :=
  congrArg Host.Outcome.next ((State.takeInTurn_of_inTurn hturn _).trans (if_pos hbegun))

theorem exec_alertHanded_queued {side : AlertSide} (hside : alertSide s.arrangement ch = some side) {q : List Alert}
    {drops : Nat} (hqueue : enqueueAlert ⟨k, ch, side, alertValue k v⟩ s.composer.queue = (q, drops)) :
    exec (.alertHanded k ch v) s = .next ((s.take (.alertHanded k ch v)).setQueue q drops) := by
  rw [exec_alertHanded hbegun hturn, State.takeAlertHanded_queued (s := s.take _) hside hqueue]

theorem exec_alertHanded_sideless (hside : alertSide s.arrangement ch = none) :
    exec (.alertHanded k ch v) s = .next (s.take (.alertHanded k ch v)) := by
  rw [exec_alertHanded hbegun hturn, State.takeAlertHanded_sideless (s := s.take _) hside]

end

/-- Settles O51: by the three cases of the queue (R140), with the side of R139. -/
theorem alertJoinsQueue : Obligations.AlertJoinsQueue := by
  rintro k ch v side a _ s hbegun rfl hturn hmodule hleft hright hboth rfl
  refine ⟨fun hsends => ?_, ?_⟩
  · have hside := alertSide_eq hmodule hleft hright hboth hsends
    refine ⟨fun hlen hnew hstats => ?_, fun b hb hkind hchannel hstats => ?_, fun old rest hqueue hlen hnew => ?_⟩
    · rw [exec_alertHanded_queued hbegun hturn hside (enqueueAlert_appends hnew hlen),
        State.setQueue_noDrop (s := s.take _) hstats]
      rfl
    · rw [exec_alertHanded_queued hbegun hturn hside (enqueueAlert_merges hb hkind hchannel),
        State.setQueue_noDrop (s := s.take _) hstats, mergeAlert_eq]
      rfl
    · exact exec_alertHanded_queued hbegun hturn hside (enqueueAlert_drops hnew hqueue hlen)
  · rintro hjoined rfl
    exact exec_alertHanded_sideless hbegun hturn (congrArg (alertSide · (some .ch2)) hjoined)

/-! ## ALERT_SENT (R142) -/

/-- With no group in flight a queued alert is offered, and the ALERT slot takes the whole queue (R119, R141). -/
theorem exec_transmitStart_alert {s : State} (htx : s.link.tx = .enabled) (hline : s.link.line = .idle)
    (hawait : s.link.awaitIdle = false) (hnone : s.framesInFlight = 0) (hqueue : s.composer.queue ≠ [])
    (hgroup : s.composer.group = []) (m : Time) :
    exec (.transmitStart m) s = .next (s.stamp m).startAlert.beginSending := by
  have halert : s.alertOffered = true := s.alertOffered_iff.2 ⟨hqueue, hgroup⟩
  have hoffered : s.frameOffered = true := by simp [State.frameOffered, halert]
  rw [exec_transmitStart_starts (s.mayStart_iff.2 ⟨htx, hline, hawait, hoffered, hnone⟩),
    State.startChosen_alert (s := s.stamp m) halert]

/-- Settles O50: the group is emptied, so that the ALERT slot offers what waits. -/
theorem alertSentEmptiesGroup : Obligations.AlertSentEmptiesGroup := by
  refine ⟨fun s => rfl, ?_⟩
  intro m s t hsent hqueue htx hline hawait hnone
  obtain rfl := Host.Outcome.next.inj hsent
  exact ⟨_, exec_transmitStart_alert (s := (s.take .alertSent).endGroup) htx hline hawait hnone hqueue rfl m, rfl, rfl⟩

/-! ## ALERT_RETURNED (R143) -/

/-- A returned alert takes the value of the first alert of its kind and channel that joined meanwhile (R143, step 1). -/
theorem renewed_eq (q : List Alert) (a : Alert) : renewed q a =
    match q.find? fun b => decide (a.kind = b.kind ∧ a.channel = b.channel) with
    | some b => { a with value := b.value }
    | none => a := by
  have hevent : (fun b => decide (a.kind = b.kind ∧ a.channel = b.channel)) = sameEvent a :=
    funext fun b => Bool.decide_and ..
  rw [hevent]
  rfl

theorem not_any_sameEvent (g : List Alert) (b : Alert) : (!g.any (sameEvent b)) =
    g.all fun a => decide (b.kind ≠ a.kind ∨ b.channel ≠ a.channel) := by
  rw [List.not_any_eq_all_not]
  refine congrArg g.all (funext fun a => ?_)
  rw [sameEvent, ← Bool.decide_and, ← decide_not]
  exact decide_eq_decide.2 not_and_or

theorem exec_alertReturned (o : AlertReturn) (s : State) : exec (.alertReturned o) s = .next
    ((s.take (.alertReturned o)).endGroup.setQueue (dropToFour (mergeReturned s.composer.group s.composer.queue)).1
      (dropToFour (mergeReturned s.composer.group s.composer.queue)).2) := rfl

/-- A queue of at most four stands whole. -/
theorem dropToFour_short {q : List Alert} (h : q.length ≤ 4) : dropToFour q = (q, 0) := by
  rw [dropToFour, Nat.sub_eq_zero_of_le h, List.drop_zero]

/-- Of a longer queue the four newest stand, and the rest are counted (R143, step 2). -/
theorem dropToFour_long {q : List Alert} (h : 4 < q.length) :
    (dropToFour q).1.length = 4 ∧ (dropToFour q).1 <:+ q ∧ (dropToFour q).2 + 4 = q.length :=
  ⟨by simp only [dropToFour, List.length_drop]; omega, List.drop_suffix _ _, Nat.sub_add_cancel h.le⟩

/-- Settles O52: the merge is the model's, and the oldest beyond four are dropped. -/
theorem returnedGroupGoesAhead : Obligations.ReturnedGroupGoesAhead := by
  intro o merged s hmerged _
  have hmerge : merged = mergeReturned s.composer.group s.composer.queue :=
    hmerged.trans (congrArg₂ (· ++ ·) (List.map_congr_left fun a _ => (renewed_eq s.composer.queue a).symm)
      (List.filter_congr fun b _ => (not_any_sameEvent s.composer.group b).symm))
  rw [exec_alertReturned, ← hmerge]
  exact ⟨(dropToFour merged).2, (dropToFour merged).1, rfl,
    fun hshort => Prod.ext_iff.1 (dropToFour_short hshort), dropToFour_long⟩

end Sys2Proof.Machine

namespace Sys2Proof.Machine

/-! ## What a command can do to the fault unit (R145 to R166) -/

/-- The commands, resets aside, that may write the fault unit: those it takes (R148, R158 to R160, R164, R165, R146), and
the two of the start that reach it (R180, R185). -/
def writesFault (c : Instr) : Bool :=
  match c with
  | .startSequence _ | .listenExpiry _ | .endOfStarting | .faultNotice _ | .causeCleared _ | .supplySagNotice
  | .quietEntry | .quietExit | .serviceEntry | .serviceExit | .serviceClear | .millisecondCountTick _ => true
  | _ => false

/-- Every other command leaves the fault unit as it is. -/
theorem exec_keeps_fault {c : Instr} {s t : State} (hreset : isResetCommand c = false) (hc : writesFault c = false)
    (h : exec c s = .next t) : t.fault = s.fault := by
  cases c
  case powerOnReset | brownOutExpiry | replySuccessNotice | restartTimerExpiry => cases hreset
  case startSequence | listenExpiry | endOfStarting | faultNotice | causeCleared | supplySagNotice | quietEntry | quietExit
      | serviceEntry | serviceExit | serviceClear | millisecondCountTick => cases hc
  all_goals obtain rfl := Host.Outcome.next.inj h
  case alertHanded k ch v =>
    refine State.takeInTurn_of (P := fun x => x.fault = s.fault) rfl ?_
    split <;> simp
  case samplePeriodChange | lanePhaseCopy | phaseHandoff | capStepHandoff | modeChangeToDriver | quietReportChange
      | abortEvent =>
    exact State.takeInTurn_of (P := fun x => x.fault = s.fault) rfl (by simp)
  all_goals simp

/-! ## What taking an event keeps of the fault unit -/

/-- In PASSIVE and LATCHED every channel is PASSIVE (R154). -/
def State.GaveUp (s : State) : Prop :=
  s.fault.mode = .passive ∨ s.fault.mode = .latched → ∀ c, (chanGet s.slip c).phase = .passive

theorem State.FaultLaw.channels {s : State} (hs : s.FaultLaw) : s.GaveUp := by
  intro h c
  obtain ⟨h1, h2⟩ := hs.gaveUp h
  cases c
  · exact h1
  · exact h2

/-- What an event keeps of the fault unit and of the channels before it captures a record: the record, the memory, and the
law on the held-cause set, the millisecond count and the channels (R154, R157, R158, R160, R163, R164). -/
structure FaultStep (s t : State) : Prop where
  record : t.fault.record = s.fault.record
  seen : ∀ k, s.fault.seen.getLsbD k = true → t.fault.seen.getLsbD k = true
  supplyEvent : s.fault.supplyEvent = true → t.fault.supplyEvent = true
  millis : s.fault.millis ≤ 4294967295 → t.fault.millis ≤ 4294967295
  held : heldFits s.fault.mode s.fault.held → heldFits t.fault.mode t.fault.held
  gaveUp : s.GaveUp → t.GaveUp

/-- What leaves the fault unit as it is and every PASSIVE channel PASSIVE. -/
theorem FaultStep.of_frame {s t : State} (hfault : t.fault = s.fault) (hslip : PassiveKept s t) : FaultStep s t where
  record := by rw [hfault]
  seen k h := by rwa [hfault]
  supplyEvent h := by rwa [hfault]
  millis h := by rwa [hfault]
  held h := by rwa [hfault]
  gaveUp h hm c := hslip c (h (hfault ▸ hm) c)

theorem FaultStep.refl (s : State) : FaultStep s s := .of_frame rfl (.of_slip rfl)

theorem FaultStep.trans {s t u : State} (h : FaultStep s t) (h' : FaultStep t u) : FaultStep s u where
  record := h'.record.trans h.record
  seen k hk := h'.seen k (h.seen k hk)
  supplyEvent hk := h'.supplyEvent (h.supplyEvent hk)
  millis hk := h'.millis (h.millis hk)
  held hk := h'.held (h.held hk)
  gaveUp hk := h'.gaveUp (h.gaveUp hk)

theorem FaultStep.then_hand {s t : State} (h : FaultStep s t) (cs : List Instr) : FaultStep s (t.hand cs) :=
  h.trans (.of_frame rfl (.of_slip rfl))

/-! ### Events that may end in LATCHED (R159, R162) -/

/-- A step that keeps the mode, or leads to one other than LATCHED, or latches on a latched record (R159, R162). -/
structure FaultEvent (s t : State) : Prop extends FaultStep s t where
  latched : t.fault.mode = .latched → s.fault.mode = .latched ∨ recordLatched s.fault.record = true

theorem FaultStep.event_of_mode {s t : State} (h : FaultStep s t) (hm : t.fault.mode = s.fault.mode) : FaultEvent s t :=
  ⟨h, fun h => .inl (hm.symm.trans h)⟩

theorem FaultStep.event_of_ne {s t : State} (h : FaultStep s t) (hm : t.fault.mode ≠ .latched) : FaultEvent s t :=
  ⟨h, fun h => absurd h hm⟩

/-- A command that is taken off the list or stamped first, and leads on by an event. -/
theorem FaultEvent.after_frame {s t u : State} (h : FaultEvent t u) (hfault : t.fault = s.fault) (hslip : t.slip = s.slip) :
    FaultEvent s u :=
  ⟨(FaultStep.of_frame hfault (.of_slip hslip)).trans h.toFaultStep, fun hm => by rw [← hfault]; exact h.latched hm⟩

theorem FaultEvent.of_frame {s t : State} (hfault : t.fault = s.fault) (hslip : PassiveKept s t) : FaultEvent s t :=
  (FaultStep.of_frame hfault hslip).event_of_mode (by rw [hfault])

/-- And one that is followed by what writes neither the fault unit nor a channel. -/
theorem FaultEvent.then_frame {s t u : State} (h : FaultEvent s t) (hfault : u.fault = t.fault) (hslip : u.slip = t.slip) :
    FaultEvent s u :=
  ⟨h.toFaultStep.trans (.of_frame hfault (.of_slip hslip)), fun hm => h.latched (hfault ▸ hm)⟩

/-! ### The operations (R146 to R158) -/

/-- A change between modes that keep no channel forced. -/
theorem State.setMode_step {s : State} {m : Mode} (hpassive : m ≠ .passive) (hlatched : m ≠ .latched)
    (hheld : heldFits s.fault.mode s.fault.held → heldFits m s.fault.held) : FaultStep s (s.setMode m) where
  record := by simp
  seen k h := by simpa using h
  supplyEvent h := by simpa using h
  millis h := by simpa using h
  held h := by simpa using hheld h
  gaveUp _ hm := by simp [hpassive, hlatched] at hm

/-- A cause enters the cause-seen set, which loses none (R163). -/
theorem State.seeCause_step (s : State) (c : Cause) : FaultStep s (s.seeCause c) where
  record := rfl
  seen k h := by simp [h]
  supplyEvent := id
  millis := id
  held := id
  gaveUp := id

/-- Giving up forces every channel, and PASSIVE and LATCHED leave the held-cause set free (R154, R157). -/
theorem State.giveUp_step {s : State} {m : Mode} (hm : m = .passive ∨ m = .latched) : FaultStep s (s.giveUp m) where
  record := by simp
  seen k h := by simpa using h
  supplyEvent h := by simpa using h
  millis h := by simpa using h
  held _ := by rcases hm with rfl | rfl <;> simp [heldFits]
  gaveUp _ _ c := s.giveUp_phase m c

theorem State.toPassive_step (s : State) (code : Nat) : FaultStep s (s.toPassive code) :=
  (State.giveUp_step (.inl rfl)).then_hand _

theorem State.toLatched_step (s : State) (code : Nat) : FaultStep s (s.toLatched code) :=
  (State.giveUp_step (.inr rfl)).then_hand _

theorem State.moduleFault_step (s : State) (code : Nat) : FaultStep s (s.moduleFault code) := by
  unfold State.moduleFault
  split
  case h_6 => exact s.toLatched_step code
  case h_7 => exact .refl s
  all_goals exact s.toPassive_step code

theorem State.forceWithAlert_step (s : State) (cause : ChannelCause) (c : Channel) :
    FaultStep s (s.forceWithAlert cause c) :=
  .of_frame (by simp) (s.forceWithAlert_keeps_passive cause c)

theorem State.channelFault_step (s : State) (cause : ChannelCause) (c : Channel) : FaultStep s (s.channelFault cause c) := by
  unfold State.channelFault State.judgeUsable
  split
  · exact .refl s
  split
  · exact s.forceWithAlert_step cause c
  · exact (s.forceWithAlert_step cause c).trans
      ((State.seeCause_step _ .allChannels).trans (State.moduleFault_step _ 13))

theorem State.channelLadder_step (s : State) (cause : ChannelCause) (c : Channel) :
    FaultStep s (s.channelLadder cause c) := by
  unfold State.channelLadder
  split
  case h_5 =>
    exact (s.forceWithAlert_step cause c).trans ((State.seeCause_step _ .promoted).trans (State.toPassive_step _ 14))
  case h_6 => exact (s.seeCause_step .promoted).trans (State.toLatched_step _ 14)
  case h_7 => exact .refl s
  all_goals exact s.channelFault_step cause c

theorem State.positionClash_step (s : State) : FaultStep s s.positionClash := by
  have halert : FaultStep s (s.hand [moduleAlert .positionClash 12]) := (FaultStep.refl s).then_hand _
  unfold State.positionClash
  dsimp only
  split
  · exact halert
  · exact halert.trans (State.toLatched_step _ 12)

/-! ### Reversible causes (R157, R158) -/

/-- The modes a reversible cause turns to HELD (R157). -/
abbrev workingModes : List Mode := [.active, .quiet, .service]

/-- The mode a reversible cause leads to (R157). -/
def heldMode (m : Mode) : Mode := if m ∈ workingModes then .held else m

/-- A reversible cause enters the held-cause set; from a working mode the station becomes HELD with MODULE_HELD, which ends
a standstill run (R147, R155, R157, R174). -/
theorem State.reversibleCause_eq (s : State) (c : Reversible) : s.reversibleCause c =
    { s with
      fault := { s.fault with held := addHeld c s.fault.held, mode := heldMode s.fault.mode }
      standstill := if s.fault.mode = .active then none else s.standstill
      handed := s.handed ++ if s.fault.mode ∈ workingModes then
        modeHandoffs s.fault.mode .held s.testRunning ++ [moduleAlert .moduleHeld (reversibleCode c)] else [] } := by
  unfold State.reversibleCause
  dsimp only
  split
  case h_1 | h_2 | h_3 =>
    next h => simp [h, heldMode, State.toHeld, State.setMode, State.hand, State.setHeld, State.testRunning]
  all_goals
    next h => simp [h, heldMode, State.setHeld]

/-- The held-cause set is not empty once a cause enters it (R157). -/
theorem addHeld_isEmpty (c : Reversible) (x : HeldSet) : (addHeld c x).isEmpty = false := by
  cases c <;> simp [addHeld, HeldSet.isEmpty]

/-- Nothing leaves an empty held-cause set (R158). -/
theorem dropHeld_isEmpty {x : HeldSet} (c : Reversible) (h : x.isEmpty = true) : dropHeld c x = x := by
  obtain ⟨hd, hu⟩ : x.demandLost = false ∧ x.supplyUnder = false := by simpa [HeldSet.isEmpty] using h
  cases c
  · simp [dropHeld, ← hd]
  · simp [dropHeld, ← hu]

theorem heldFits_addHeld (c : Reversible) (m : Mode) (x : HeldSet) : heldFits (heldMode m) (addHeld c x) := by
  cases m <;> simp [heldMode, heldFits, addHeld_isEmpty]

theorem State.reversibleCause_step (s : State) (c : Reversible) : FaultStep s (s.reversibleCause c) := by
  rw [State.reversibleCause_eq]
  refine ⟨rfl, fun _ => id, id, id, fun _ => heldFits_addHeld c _ _, fun h hm => h ?_⟩
  have hnot : ∀ m, m ≠ .held → heldMode s.fault.mode = m → s.fault.mode = m := by
    intro m hne he
    unfold heldMode at he
    split at he
    · exact absurd he.symm hne
    · exact he
  exact hm.imp (hnot _ nofun) (hnot _ nofun)

/-- When the last held cause clears in HELD the mode returns to ACTIVE with MODULE_RECOVERED (R147, R155, R158). -/
theorem State.clearCause_recovers {s : State} {c : Reversible} (hmode : s.fault.mode = .held)
    (hheld : s.fault.held.isEmpty = false) (hlast : (dropHeld c s.fault.held).isEmpty = true) : s.clearCause c =
      { s with
        fault := { s.fault with held := dropHeld c s.fault.held, mode := .active }
        handed := s.handed ++ [.modeChangeToDriver .active, moduleAlert .moduleRecovered 0] } := by
  simp [State.clearCause, hmode, hheld, hlast, State.setMode, State.setHeld, State.hand, modeHandoffs]

/-- Else the cause leaves the set, and the mode stands (R158). -/
theorem State.clearCause_stands {s : State} {c : Reversible}
    (h : s.fault.mode ≠ .held ∨ s.fault.held.isEmpty = true ∨ (dropHeld c s.fault.held).isEmpty = false) :
    s.clearCause c = s.setHeld (dropHeld c s.fault.held) := by
  refine if_neg ?_
  rcases h with h | h | h <;> simp [h]

theorem State.clearCause_event (s : State) (c : Reversible) : FaultEvent s (s.clearCause c) := by
  by_cases h : s.fault.mode ≠ .held ∨ s.fault.held.isEmpty = true ∨ (dropHeld c s.fault.held).isEmpty = false
  · rw [State.clearCause_stands h]
    refine ⟨⟨rfl, fun _ => id, id, id, fun hheld => ?_, id⟩, .inl⟩
    cases hm : s.fault.mode <;> rw [hm] at hheld <;> simp only [State.setHeld_fault, hm]
    case active | quiet | service => exact (congrArg _ (dropHeld_isEmpty c hheld)).trans hheld
    case held =>
      rcases h with h | h | h
      · exact absurd hm h
      · exact absurd (hheld.symm.trans h) nofun
      · exact h
    all_goals trivial
  · simp only [ne_eq, not_or, not_not, Bool.not_eq_true, Bool.not_eq_false] at h
    obtain ⟨hmode, hheld, hlast⟩ := h
    rw [State.clearCause_recovers hmode hheld hlast]
    exact ⟨⟨rfl, fun _ => id, id, id, fun _ => hlast, fun _ hm => by simp at hm⟩, nofun⟩

/-! ### A notice by its class, and its record (R148, R161 to R163) -/

theorem State.ladder_step (s : State) (n : Notice) : FaultStep s (s.ladder n) := by
  cases n with
  | channelFault cause c marked =>
    cases marked
    · exact s.channelLadder_step cause c
    · exact .refl s
  | configBad => exact s.moduleFault_step 11
  | positionClash => exact s.positionClash_step
  | reversible c => exact s.reversibleCause_step c
  | observation => exact .refl s

/-- A notice whose cause is seen and whose class has acted, before its record (R148, R163). -/
def State.classed (s : State) (n : Notice) : State := (s.seeCause (noticeCause n)).ladder n

theorem State.classed_step (s : State) (n : Notice) : FaultStep s (s.classed n) :=
  (s.seeCause_step _).trans (State.ladder_step _ n)

/-- What the record may be once a notice has led to the mode `m`: the one that stood, or the notice in an empty one; in
LATCHED it carries its latch flag (R161, R162). -/
structure RecordTaken (s : State) (n : Notice) (m : Mode) (record : Option FaultRecord) : Prop where
  kept : ∀ r, s.fault.record = some r → record = some r ∨ record = some { r with latch := true }
  origin : ∀ r, record = some r → (∃ x, s.fault.record = some x ∧ x.cause = r.cause ∧ x.time = r.time)
    ∨ r.cause = noticeCause n ∧ r.time = s.fault.millis
  latched : m = .latched → ∀ r, record = some r → r.latch = true

theorem recordAfter_taken (s : State) (n : Notice) (m : Mode) : RecordTaken s n m (recordAfter s n m) := by
  unfold recordAfter
  cases hr : s.fault.record with
  | none => exact ⟨fun r h => by simp [hr] at h, by simp [captureOf], by simp +contextual [captureOf]⟩
  | some r =>
    refine ⟨fun x h => ?_, ?_, ?_⟩
    · obtain rfl : r = x := Option.some.inj (hr.symm.trans h)
      by_cases hm : m = .latched <;> simp [hm]
    · simp [hr]
    · simp +contextual

/-- The record that stands, latched in LATCHED, is taken for a notice that captures none (R161, R162). -/
theorem latchedRecord_taken (s : State) (n : Notice) (m : Mode) :
    RecordTaken s n m (if m = .latched then s.fault.record.map latchRecord else s.fault.record) := by
  by_cases hm : m = .latched
  · refine ⟨fun r h => .inr (by simp [hm, h, latchRecord]), fun r h => .inl ?_, fun _ r h => ?_⟩
    · obtain ⟨x, hx, rfl⟩ : ∃ x, s.fault.record = some x ∧ latchRecord x = r := by simpa [hm] using h
      exact ⟨x, hx, rfl, rfl⟩
    · obtain ⟨x, -, rfl⟩ : ∃ x, s.fault.record = some x ∧ latchRecord x = r := by simpa [hm] using h
      rfl
  · exact ⟨fun r h => .inl (by simp [hm, h]), fun r h => .inl ⟨r, by simpa [hm] using h, rfl, rfl⟩, fun h => absurd h hm⟩

/-- A notice that captures no record is classed, and leaves the record to the mode (R161, R162). -/
theorem State.takeNotice_uncaptured {s : State} {n : Notice} (hn : captures n = false) : s.takeNotice n =
    { s.classed n with fault := { (s.classed n).fault with
        record := if (s.classed n).fault.mode = .latched then s.fault.record.map latchRecord else s.fault.record } } := by
  have hlatch : s.takeNotice n = (s.classed n).latchFlag := if_neg (by simp [hn])
  rw [hlatch, State.latchFlag, ← (s.classed_step n).record]
  split <;> rfl

/-- A notice writes the record last, over what its class has done (R148, R161 to R163). -/
theorem State.takeNotice_cases (s : State) (n : Notice) : ∃ record, s.takeNotice n =
    { s.classed n with fault := { (s.classed n).fault with record := record } }
      ∧ RecordTaken s n (s.classed n).fault.mode record := by
  cases hn : captures n
  · exact ⟨_, State.takeNotice_uncaptured hn, latchedRecord_taken s n _⟩
  · exact ⟨_, State.takeNotice_eq hn rfl (s.classed_step n).record, recordAfter_taken s n _⟩

/-! ## The memory of faults (R161 to R164) -/

/-- The fault memory loses nothing: the record may only gain its latch flag (R161 to R164). -/
structure MemoryKept (s t : State) : Prop where
  record : ∀ r, s.fault.record = some r → t.fault.record = some r ∨ t.fault.record = some { r with latch := true }
  seen : ∀ k, s.fault.seen.getLsbD k = true → t.fault.seen.getLsbD k = true
  supplyEvent : s.fault.supplyEvent = true → t.fault.supplyEvent = true

theorem FaultStep.memoryKept {s t : State} (h : FaultStep s t) : MemoryKept s t :=
  ⟨fun _ hr => .inl (h.record.trans hr), h.seen, h.supplyEvent⟩

theorem State.takeNotice_memoryKept (s : State) (n : Notice) : MemoryKept s (s.takeNotice n) := by
  obtain ⟨record, htaken, hrecord⟩ := s.takeNotice_cases n
  rw [htaken]
  exact ⟨hrecord.kept, (s.classed_step n).seen, (s.classed_step n).supplyEvent⟩

/-! ## The law of the fault unit (R145, R154, R157 to R163) -/

/-- The law reads only the fault unit and the channels. -/
theorem State.FaultLaw.of_frame {s t : State} (hs : s.FaultLaw) (hfault : t.fault = s.fault) (hslip : t.slip = s.slip) :
    t.FaultLaw where
  gaveUp := by rw [hfault, hslip]; exact hs.gaveUp
  latched := by rw [hfault]; exact hs.latched
  recordSeen := by rw [hfault]; exact hs.recordSeen
  held := by rw [hfault]; exact hs.held
  millis := by rw [hfault]; exact hs.millis

/-- A step that leads to LATCHED only with a latched record keeps the law (R159, R162). -/
theorem State.FaultLaw.of_step {s t : State} (hs : s.FaultLaw) (h : FaultStep s t)
    (hlatched : t.fault.mode = .latched → s.fault.mode = .latched ∨ recordLatched s.fault.record = true) :
    t.FaultLaw where
  gaveUp hm := ⟨h.gaveUp hs.channels hm .ch1, h.gaveUp hs.channels hm .ch2⟩
  latched hm r hr := by
    rw [h.record] at hr
    rcases hlatched hm with hm' | hr'
    · exact hs.latched hm' r hr
    · rwa [hr] at hr'
  recordSeen r hr := h.seen _ (hs.recordSeen r (h.record ▸ hr))
  held := h.held hs.held
  millis := ⟨h.millis hs.millis.1, fun r hr => hs.millis.2 r (h.record ▸ hr)⟩

/-- Cause code n is bit n - 1 of its own mask (R163). -/
theorem causeBit_getLsbD (c : Cause) : (causeBit c).getLsbD (causeCode c - 1) = true := by
  cases c with
  | channel x => cases x <;> rfl
  | reversible x => cases x <;> rfl
  | observation x => cases x <;> rfl
  | _ => rfl

theorem State.classed_seen (s : State) (n : Notice) :
    (s.classed n).fault.seen.getLsbD (causeCode (noticeCause n) - 1) = true :=
  (State.ladder_step _ n).seen _ (by simp [causeBit_getLsbD])

/-- A notice keeps the law: its class keeps it but for the latch flag, and its record is written last (R161 to R163). -/
theorem State.takeNotice_faultLaw {s : State} (hs : s.FaultLaw) (n : Notice) : (s.takeNotice n).FaultLaw := by
  obtain ⟨record, htaken, hrecord⟩ := s.takeNotice_cases n
  have hstep := s.classed_step n
  rw [htaken]
  refine ⟨fun hm => ⟨hstep.gaveUp hs.channels hm .ch1, hstep.gaveUp hs.channels hm .ch2⟩, hrecord.latched,
    fun r hr => ?_, hstep.held hs.held, hstep.millis hs.millis.1, fun r hr => ?_⟩
  · rcases hrecord.origin r hr with ⟨x, hx, hcause, -⟩ | ⟨hcause, -⟩
    · exact hcause ▸ hstep.seen _ (hs.recordSeen x hx)
    · exact hcause ▸ s.classed_seen n
  · rcases hrecord.origin r hr with ⟨x, hx, -, htime⟩ | ⟨-, htime⟩
    · exact htime ▸ hs.millis.2 x hx
    · exact htime ▸ hs.millis.1

/-! ## The other events of the fault unit (R146, R158 to R160, R164, R165, R180, R185) -/

/-- What settles the working mode leads to LATCHED only with a latched record (R159). -/
theorem State.settleWorkingMode_event (s : State) : FaultEvent s s.settleWorkingMode := by
  unfold State.settleWorkingMode
  split
  case h_1 hm =>
    split
    · next hr => exact ⟨s.toLatched_step _, fun _ => .inr hr⟩
    split
    · next he =>
        have hactive : FaultStep s (s.setMode .active) := State.setMode_step nofun nofun fun _ => he
        exact hactive.event_of_ne (by simp)
    · next he =>
        have hheld : FaultStep s (s.setMode .held) := State.setMode_step nofun nofun fun _ => by simpa [heldFits] using he
        exact (hheld.then_hand _).event_of_ne (by simp)
  case h_2 hm =>
    split
    · next hr => exact ⟨s.toLatched_step _, fun _ => .inr hr⟩
    · exact ⟨.refl s, .inl⟩
  all_goals exact ⟨.refl s, .inl⟩

theorem State.tickMillis_event (s : State) (t : Time) : FaultEvent s (s.tickMillis t) := by
  unfold State.tickMillis
  split
  · exact ⟨⟨rfl, fun _ => id, id, fun _ => Nat.min_le_left _ _, id, id⟩, .inl⟩
  · exact ⟨.refl s, .inl⟩

theorem State.beginStart_event (s : State) (x : Straps) : FaultEvent s (s.beginStart x) := by
  unfold State.beginStart
  split
  · exact ⟨⟨rfl, fun _ => id, id, id, id, id⟩, .inl⟩
  · exact ⟨.refl s, .inl⟩

/-- A notice of SAG sets the supply event flag (R164). -/
theorem State.setSupplyEvent_event (s : State) : FaultEvent s s.setSupplyEvent :=
  ⟨⟨rfl, fun _ => id, fun _ => rfl, id, id, id⟩, .inl⟩

theorem heldFits_working {m : Mode} (hm : m ∈ workingModes) (x : HeldSet) : heldFits m x ↔ x.isEmpty = true := by
  simp only [List.mem_cons, List.not_mem_nil, or_false] at hm
  rcases hm with rfl | rfl | rfl <;> rfl

/-- The working modes follow each other with an empty held-cause set (R146, R157). -/
theorem State.setMode_event {s : State} {m : Mode} (hfrom : s.fault.mode ∈ workingModes) (hto : m ∈ workingModes) :
    FaultEvent s (s.setMode m) := by
  have hpassive : m ≠ .passive := by rintro rfl; simp at hto
  have hlatched : m ≠ .latched := by rintro rfl; simp at hto
  have hheld : heldFits s.fault.mode s.fault.held → heldFits m s.fault.held :=
    fun h => (heldFits_working hto _).2 ((heldFits_working hfrom _).1 h)
  exact (State.setMode_step hpassive hlatched hheld).event_of_ne (by simpa using hlatched)

/-- Every command but a reset, a service CLEAR and those that may take a notice is an event the law allows. -/
theorem exec_faultEvent {c : Instr} {s t : State} (hreset : isResetCommand c = false) (hclear : c ≠ .serviceClear)
    (hnotice : ∀ n, c ≠ .faultNotice n) (hlisten : ∀ m, c ≠ .listenExpiry m) (h : exec c s = .next t) :
    FaultEvent s t := by
  by_cases hwrites : writesFault c = false
  · exact .of_frame (exec_keeps_fault hreset hwrites h) (exec_keeps_passive hreset h)
  have hchange : ∀ d m, s.fault.mode ∈ workingModes → m ∈ workingModes → FaultEvent s ((s.take d).setMode m) :=
    fun d _ hfrom hto => (State.setMode_event (s := s.take d) hfrom hto).after_frame rfl rfl
  cases c
  case serviceClear => exact absurd rfl hclear
  case faultNotice n => exact absurd rfl (hnotice n)
  case listenExpiry m => exact absurd rfl (hlisten m)
  all_goals obtain rfl := Host.Outcome.next.inj h
  case startSequence x => exact s.beginStart_event x
  case supplySagNotice => exact (s.take .supplySagNotice).setSupplyEvent_event.after_frame rfl rfl
  case millisecondCountTick m => exact ((s.stamp m).tickMillis_event m).after_frame rfl rfl
  case endOfStarting =>
    split
    · exact FaultEvent.then_frame ((s.take .endOfStarting).settleWorkingMode_event.after_frame rfl rfl) rfl rfl
    · exact .of_frame rfl (.of_slip rfl)
  case causeCleared r =>
    split
    · exact ((s.take (.causeCleared r)).clearCause_event r).after_frame rfl rfl
    · exact .of_frame rfl (.of_slip rfl)
  case quietEntry | quietExit | serviceExit =>
    split
    · next hm => exact hchange _ _ (by simp [hm]) (by simp)
    · exact .of_frame rfl (.of_slip rfl)
  case serviceEntry =>
    split
    · next hm => exact (hchange _ _ (by rcases hm with hm | hm <;> simp [hm]) (by simp)).then_frame rfl rfl
    · exact .of_frame rfl (.of_slip rfl)
  all_goals exact absurd rfl hwrites

/-! ## The resets and the listen expiry (R165, R166, R172, R178, R185, R193) -/

/-- What stands for the fault unit and the channels at the listen expiry: nothing, or CONFIG_BAD taken (R152, R185). -/
theorem State.endListen_notice (s : State) (t : Time) :
    ((s.endListen t).fault = s.fault ∧ (s.endListen t).slip = s.slip)
    ∨ ((s.endListen t).fault = (s.takeNotice .configBad).fault ∧ (s.endListen t).slip = (s.takeNotice .configBad).slip) := by
  unfold State.endListen State.raiseConfigBad
  split
  · split
    · exact .inr (by simp)
    · exact .inl (by simp)
  · exact .inl ⟨rfl, rfl⟩

/-- A reset command is a power-on reset, a warm restart (after a notice of SAG still outstanding, log entry 8), or one that
resets nothing (R172, R178, R193; log entry 7). -/
theorem exec_reset_cases {c : Instr} {s t : State} (hreset : isResetCommand c = true) (h : exec c s = .next t) :
    (c = .powerOnReset ∧ t = s.powerOn) ∨ (∃ u : State, FaultEvent s u ∧ t = u.warmRestart)
      ∨ (t.fault = s.fault ∧ t.slip = s.slip) := by
  cases c
  case powerOnReset => exact .inl ⟨rfl, (Host.Outcome.next.inj h).symm⟩
  case brownOutExpiry m =>
    obtain rfl := Host.Outcome.next.inj h
    unfold State.brownOut State.settleSag
    split
    · refine .inr (.inl ⟨_, ?_, rfl⟩)
      split
      · exact (s.stamp m).setSupplyEvent_event.after_frame rfl rfl
      · exact .of_frame rfl (.of_slip rfl)
    · exact .inr (.inr ⟨rfl, rfl⟩)
  case replySuccessNotice | restartTimerExpiry =>
    obtain rfl := Host.Outcome.next.inj h
    split
    · exact .inr (.inl ⟨s, .of_frame rfl (.of_slip rfl), rfl⟩)
    · exact .inr (.inr ⟨rfl, rfl⟩)
  all_goals cases hreset

/-! ## Every command keeps the law, and the memory of faults -/

theorem State.powerOn_faultLaw (s : State) : s.powerOn.FaultLaw := State.reset_faultLaw.of_frame rfl rfl

/-- A warm restart leaves STARTING with the record and the cause-seen set of before (R166). -/
theorem State.warmRestart_faultLaw {s : State} (hs : s.FaultLaw) : s.warmRestart.FaultLaw where
  gaveUp h := by simp [State.warmRestart, FaultUnit.reset] at h
  latched h := by simp [State.warmRestart, FaultUnit.reset] at h
  recordSeen := hs.recordSeen
  held := trivial
  millis := ⟨Nat.zero_le _, hs.millis.2⟩

/-- A service CLEAR leaves no record to speak of (R165). -/
theorem State.clearMemory_faultLaw {s : State} (hs : s.FaultLaw) : s.clearMemory.FaultLaw where
  gaveUp := hs.gaveUp
  latched _ r hr := by simp at hr
  recordSeen r hr := by simp at hr
  held := hs.held
  millis := ⟨hs.millis.1, fun r hr => by simp at hr⟩

theorem FaultEvent.faultLaw {s t : State} (h : FaultEvent s t) (hs : s.FaultLaw) : t.FaultLaw :=
  hs.of_step h.toFaultStep h.latched

theorem exec_keeps_faultLaw {c : Instr} {s t : State} (hs : s.FaultLaw) (h : exec c s = .next t) : t.FaultLaw := by
  by_cases hreset : isResetCommand c = true
  · rcases exec_reset_cases hreset h with ⟨-, rfl⟩ | ⟨u, hu, rfl⟩ | ⟨hfault, hslip⟩
    · exact s.powerOn_faultLaw
    · exact State.warmRestart_faultLaw (hu.faultLaw hs)
    · exact hs.of_frame hfault hslip
  by_cases hclear : c = .serviceClear
  · obtain rfl := hclear
    obtain rfl := Host.Outcome.next.inj h
    exact State.clearMemory_faultLaw (s := s.take .serviceClear) (hs.of_frame rfl rfl)
  by_cases hnotice : ∃ n, c = .faultNotice n
  · obtain ⟨n, rfl⟩ := hnotice
    have htake : (s.take (.faultNotice n)).FaultLaw := hs.of_frame rfl rfl
    obtain rfl := Host.Outcome.next.inj h
    split
    · exact State.takeNotice_faultLaw htake n
    · exact htake
  by_cases hlisten : ∃ m, c = .listenExpiry m
  · obtain ⟨m, rfl⟩ := hlisten
    have hstamp : (s.stamp m).FaultLaw := hs.of_frame rfl rfl
    obtain rfl := Host.Outcome.next.inj h
    rcases (s.stamp m).endListen_notice m with ⟨hfault, hslip⟩ | ⟨hfault, hslip⟩
    · exact hs.of_frame hfault hslip
    · exact (State.takeNotice_faultLaw hstamp .configBad).of_frame hfault hslip
  · exact (exec_faultEvent (by simpa using hreset) hclear (by simpa using hnotice) (by simpa using hlisten) h).faultLaw hs

/-- Settles O4: a notice by its class and the record written last, every other command by an event that leads to LATCHED
only with a latched record, and the resets by the memory they keep. -/
theorem stepKeepsFaultLaw : Obligations.StepKeepsFaultLaw := by
  intro s t hs h
  unfold step at h
  split at h
  · obtain rfl := Host.Outcome.next.inj h
    exact hs
  · refine exec_keeps_faultLaw ?_ h
    exact hs.of_frame rfl rfl

theorem MemoryKept.of_fault {s t : State} (h : t.fault = s.fault) : MemoryKept s t :=
  ⟨fun _ hr => .inl (h ▸ hr), fun _ hk => by rwa [h], fun hk => by rwa [h]⟩

/-- The memory is read off the fault unit. -/
theorem MemoryKept.of_frame {s s' t t' : State} (h : MemoryKept s' t') (hs : s'.fault = s.fault)
    (ht : t.fault = t'.fault) : MemoryKept s t := by
  obtain ⟨hrecord, hseen, hevent⟩ := h
  rw [hs, ← ht] at hrecord hseen hevent
  exact ⟨hrecord, hseen, hevent⟩

theorem exec_keeps_memory {c : Instr} {s t : State} (hpower : c ≠ .powerOnReset) (hclear : c ≠ .serviceClear)
    (h : exec c s = .next t) : MemoryKept s t := by
  by_cases hreset : isResetCommand c = true
  · rcases exec_reset_cases hreset h with ⟨hc, -⟩ | ⟨u, hu, rfl⟩ | ⟨hfault, -⟩
    · exact absurd hc hpower
    · obtain ⟨hrecord, hseen, hevent⟩ := hu.toFaultStep.memoryKept
      exact ⟨hrecord, hseen, hevent⟩
    · exact .of_fault hfault
  by_cases hnotice : ∃ n, c = .faultNotice n
  · obtain ⟨n, rfl⟩ := hnotice
    obtain rfl := Host.Outcome.next.inj h
    split
    · exact ((s.take (.faultNotice n)).takeNotice_memoryKept n).of_frame rfl rfl
    · exact .of_fault rfl
  by_cases hlisten : ∃ m, c = .listenExpiry m
  · obtain ⟨m, rfl⟩ := hlisten
    obtain rfl := Host.Outcome.next.inj h
    rcases (s.stamp m).endListen_notice m with ⟨hfault, -⟩ | ⟨hfault, -⟩
    · exact .of_fault hfault
    · exact ((s.stamp m).takeNotice_memoryKept .configBad).of_frame rfl hfault
  · exact (exec_faultEvent (by simpa using hreset) hclear (by simpa using hnotice) (by simpa using hlisten)
      h).toFaultStep.memoryKept

/-- Settles O10: what each command keeps of the memory, a notice by the record it may take. -/
theorem faultMemoryIsKept : Obligations.FaultMemoryIsKept := by
  intro c s t hpower hclear h
  obtain ⟨hrecord, hseen, hevent⟩ := exec_keeps_memory hpower hclear h
  exact ⟨hrecord, hseen, hevent⟩

/-- Settles O11: of the commands that write the fault unit, the four that do not take a mode change keep the mode. -/
theorem modeChangesOnlyByItsCommands : Obligations.ModeChangesOnlyByItsCommands := by
  intro c s t hreset h hne
  by_cases hwrites : writesFault c = false
  · exact absurd (congrArg FaultUnit.mode (exec_keeps_fault hreset hwrites h)) hne
  cases c
  case startSequence x =>
    refine absurd ?_ hne
    obtain rfl := Host.Outcome.next.inj h
    unfold State.beginStart
    split <;> rfl
  case supplySagNotice | serviceClear => exact absurd (Host.Outcome.next.inj h ▸ rfl) hne
  case millisecondCountTick m =>
    refine absurd ?_ hne
    obtain rfl := Host.Outcome.next.inj h
    unfold State.tickMillis
    split <;> rfl
  case faultNotice n => exact .inl ⟨n, rfl⟩
  case causeCleared r => exact .inr (.inl ⟨r, rfl⟩)
  case listenExpiry m => exact .inr (.inr (.inr (.inl ⟨m, rfl⟩)))
  case endOfStarting | quietEntry | quietExit | serviceEntry | serviceExit => simp
  all_goals exact absurd rfl hwrites

end Sys2Proof.Machine

namespace Sys2Proof.Machine

/-! ## The warm restart (R166, R172, R178, R193) -/

/-- A warm restart leaves what a power-on reset leaves, but for the memory of faults (R166, R178). -/
theorem State.warmRestart_resetValues (s : State) : s.warmRestart.ResetValues :=
  { s.powerOn_resetValues with }

section
variable {s : State} {m : Time}

theorem exec_brownOutExpiry_due (h : timerDue s.supply.brownOut m = true) :
    exec (.brownOutExpiry m) s = .next (s.stamp m).settleSag.warmRestart :=
  congrArg Host.Outcome.next (if_pos h)

/-- An expiry that is not due is void (log entry 7). -/
theorem exec_brownOutExpiry_void (h : timerDue s.supply.brownOut m = false) :
    exec (.brownOutExpiry m) s = .next (s.stamp m) :=
  congrArg Host.Outcome.next (if_neg (Bool.eq_false_iff.1 h))

theorem exec_restartTimerExpiry_due (h : timerDue s.service.restartTimer m = true) :
    exec (.restartTimerExpiry m) s = .next s.warmRestart :=
  congrArg Host.Outcome.next (if_pos h)

theorem exec_restartTimerExpiry_void (h : timerDue s.service.restartTimer m = false) :
    exec (.restartTimerExpiry m) s = .next (s.stamp m) :=
  congrArg Host.Outcome.next (if_neg (Bool.eq_false_iff.1 h))

end

theorem State.settleSag_of_contains {s : State} (h : s.handed.contains .supplySagNotice = true) :
    s.settleSag = s.setSupplyEvent := if_pos h

theorem State.settleSag_of_not_contains {s : State} (h : s.handed.contains .supplySagNotice = false) :
    s.settleSag = s := if_neg (Bool.eq_false_iff.1 h)

/-- Settles O14: the three ways to a warm restart, the notice of SAG outstanding, and the commands that restart nothing. -/
theorem warmRestartKeepsFaultMemory : Obligations.WarmRestartKeepsFaultMemory := by
  refine ⟨fun c s h => ?_, fun m s hdue hsag => ?_, fun restartReply s h => ?_,
    fun m s => ⟨exec_restartTimerExpiry_void, exec_brownOutExpiry_void⟩⟩
  · have hexec : ∃ u : State, exec c s = .next u.warmRestart ∧ u.fault = s.fault ∧ u.pending = s.pending
        ∧ u.freeIndex = s.freeIndex := by
      rcases h with ⟨m, rfl, hdue⟩ | ⟨rfl, hmark⟩ | ⟨m, rfl, hdue, hsag⟩
      · exact ⟨s, exec_restartTimerExpiry_due hdue, rfl, rfl, rfl⟩
      · exact ⟨s, congrArg Host.Outcome.next (if_pos ⟨rfl, hmark⟩), rfl, rfl, rfl⟩
      · refine ⟨s.stamp m, ?_, rfl, rfl, rfl⟩
        rw [exec_brownOutExpiry_due hdue, State.settleSag_of_not_contains (s := s.stamp m) hsag]
    obtain ⟨u, hexec, hfault, hpending, hfree⟩ := hexec
    rw [← hfault]
    exact ⟨_, hexec, u.warmRestart_resetValues, rfl, rfl, rfl, rfl, hpending, hfree⟩
  · rw [exec_brownOutExpiry_due hdue, State.settleSag_of_contains (s := s.stamp m) hsag]
    exact ⟨_, rfl, State.warmRestart_resetValues _, rfl, rfl, rfl⟩
  · refine congrArg Host.Outcome.next (if_neg ?_)
    rintro ⟨hreply, hmark⟩
    rcases h with h | h
    · cases h.symm.trans hreply
    · cases h.symm.trans hmark

/-! ## SUPPLY_SAG_NOTICE, SERVICE_CLEAR and MILLISECOND_COUNT_TICK (R160, R164, R165) -/

/-- A due tick counts on the grid of its timer, and the count stands at its end (R160; log entry 24). -/
theorem State.tickMillis_due {s : State} {m : Time} {w : Timer} (hw : s.fault.milliTimer = some w)
    (hdue : w.period ≤ elapsed m w.setAt) : s.tickMillis m =
      { s with fault := { s.fault with
          millis := min 4294967295 (s.fault.millis + 1)
          milliTimer := some { w with setAt := w.setAt + BitVec.ofNat 32 w.period } } } := by
  rw [State.tickMillis, if_pos ((timerDue_iff _ _).2 ⟨w, hw, hdue⟩), hw]
  rfl

/-- Settles O56. -/
theorem faultMemoryEvents : Obligations.FaultMemoryEvents := by
  refine fun m w s => ⟨rfl, rfl, fun hw hdue hmillis => ?_, fun h => ?_⟩
  · have hcount : (if s.fault.millis = 4294967295 then 4294967295 else s.fault.millis + 1) =
        min 4294967295 (s.fault.millis + 1) := by split <;> omega
    rw [hcount]
    exact congrArg Host.Outcome.next (State.tickMillis_due (s := s.stamp m) hw hdue)
  · exact congrArg Host.Outcome.next (if_neg (Bool.eq_false_iff.1 h))

/-! ## The handed mode changes (R146, R147, R174) -/

/-- A change of mode whole (R145, R147, R174). -/
theorem State.setMode_of_ne {s : State} {m : Mode} (h : s.fault.mode ≠ m) : s.setMode m =
    { s with
      fault := { s.fault with mode := m }
      standstill := if s.fault.mode = .active then none else s.standstill
      handed := s.handed ++ modeHandoffs s.fault.mode m s.testRunning } := if_neg h

section
variable {s : State}

theorem exec_quietEntry_accepted (h : s.fault.mode = .active) :
    exec .quietEntry s = .next ((s.take .quietEntry).setMode .quiet) := congrArg Host.Outcome.next (if_pos h)

theorem exec_quietExit_accepted (h : s.fault.mode = .quiet) :
    exec .quietExit s = .next ((s.take .quietExit).setMode .active) := congrArg Host.Outcome.next (if_pos h)

theorem exec_serviceEntry_accepted (h : s.fault.mode = .active ∨ s.fault.mode = .quiet) : exec .serviceEntry s =
    .next (((s.take .serviceEntry).setMode .service).hand [.serviceAnswer true]) := congrArg Host.Outcome.next (if_pos h)

theorem exec_serviceExit_accepted (h : s.fault.mode = .service) :
    exec .serviceExit s = .next ((s.take .serviceExit).setMode .active) := congrArg Host.Outcome.next (if_pos h)

end

/-! ## WAKE_EVENT (R174, R176) -/

section
variable {s : State} {w : WakeEvent}

theorem State.wake_of_noWake (hw : isWake w = false) : s.wake w = s := if_neg (Bool.eq_false_iff.1 hw)

theorem State.wake_quiet (hw : isWake w = true) (hm : s.fault.mode = .quiet) : s.wake w = s.hand [.quietExit] := by
  simp only [State.wake, hw, hm, if_true]

theorem State.wake_active (hw : isWake w = true) (hm : s.fault.mode = .active) :
    s.wake w = { s with standstill := none } := by
  simp only [State.wake, hw, hm, if_true]

/-- In every other mode a wake event does nothing (R176). -/
theorem State.wake_elsewhere (hquiet : s.fault.mode ≠ .quiet) (hactive : s.fault.mode ≠ .active) : s.wake w = s := by
  unfold State.wake
  split
  · split
    case h_1 h => exact absurd h hquiet
    case h_2 h => exact absurd h hactive
    all_goals rfl
  · rfl

end

/-- Settles O57: each handed change from the mode it starts from and refused, the notices that are no wake events, and the
wake events by the mode they find. -/
theorem handedModeChanges : Obligations.HandedModeChanges := by
  intro s
  refine ⟨fun h => ?_, fun h => congrArg Host.Outcome.next (if_neg h), fun h => ?_,
    fun h => congrArg Host.Outcome.next (if_neg h), fun h => ?_, fun h => ?_, fun hactive hquiet => ?_, fun h => ?_,
    fun h => congrArg Host.Outcome.next (if_neg h), fun w hw => ?_, fun w hw => ?_⟩
  · rw [exec_quietEntry_accepted h, State.setMode_of_ne (by simp [h])]
    simp [h, modeHandoffs, State.take]
  · rw [exec_quietExit_accepted h, State.setMode_of_ne (by simp [h])]
    simp [h, modeHandoffs, State.take]
  · rw [exec_serviceEntry_accepted (.inl h), State.setMode_of_ne (by simp [h])]
    simp [h, modeHandoffs, State.take, State.hand]
  · rw [exec_serviceEntry_accepted (.inr h), State.setMode_of_ne (by simp [h])]
    simp [h, modeHandoffs, State.take, State.hand]
  · exact congrArg Host.Outcome.next (if_neg (not_or.2 ⟨hactive, hquiet⟩))
  · rw [exec_serviceExit_accepted h, State.setMode_of_ne (by simp [h])]
    simp [h, modeHandoffs, State.take]
  · have hno : isWake w = false := by
      rcases hw with rfl | ⟨o, v, rfl, rfl | rfl⟩ <;> simp [isWake]
    exact congrArg Host.Outcome.next (State.wake_of_noWake hno)
  · have hwake : isWake w = true := by
      rcases hw with ⟨i, rfl⟩ | rfl | rfl | ⟨v, rfl, hv⟩ | ⟨o, v, rfl, ho, hv⟩ <;> simp [isWake, *]
    exact ⟨fun h => congrArg Host.Outcome.next (State.wake_quiet (s := s.take _) hwake h),
      fun h => congrArg Host.Outcome.next (State.wake_active (s := s.take _) hwake h),
      fun hquiet hactive => congrArg Host.Outcome.next (State.wake_elsewhere (s := s.take _) hquiet hactive)⟩

/-! ## A reversible cause (R157, R158, R160 to R163) -/

/-- What a change into HELD hands on (R147). -/
theorem modeHandoffs_held {old : Mode} (h : old ∈ workingModes) (runs : Bool) : modeHandoffs old .held runs =
    [Instr.modeChangeToDriver .held]
      ++ (if old = .quiet then [Instr.samplePeriodChange false, .quietReportChange false] else [])
      ++ (if old = .service ∧ runs = true then [Instr.abortEvent (.modeChange .held)] else []) := by
  simp only [List.mem_cons, List.not_mem_nil, or_false] at h
  rcases h with rfl | rfl | rfl <;> cases runs <;> rfl

/-- HELD and the mode it came from are alike not LATCHED (R161). -/
theorem recordAfter_heldMode (s : State) (n : Notice) : recordAfter s n (heldMode s.fault.mode) =
    recordAfter s n s.fault.mode := by
  have hlatched : heldMode s.fault.mode = .latched ↔ s.fault.mode = .latched := by
    cases s.fault.mode <;> decide
  simp only [recordAfter, hlatched]

/-- A reversible cause taken whole (R157). -/
theorem exec_reversible {s : State} (hbegun : s.begun = true) (c : Reversible) :
    exec (.faultNotice (.reversible c)) s = .next
      { s with
        fault := { s.fault with
          mode := heldMode s.fault.mode, held := addHeld c s.fault.held
          seen := s.fault.seen ||| causeBit (.reversible c), record := recordAfter s (.reversible c) s.fault.mode }
        standstill := if s.fault.mode = .active then none else s.standstill
        handed := s.handed.erase (.faultNotice (.reversible c)) ++ if s.fault.mode ∈ workingModes then
          modeHandoffs s.fault.mode .held s.testRunning ++ [moduleAlert .moduleHeld (reversibleCode c)] else [] } := by
  have hladder : (s.noted (.reversible c)).ladder (.reversible c) = (s.noted (.reversible c)).reversibleCause c := rfl
  rw [exec_faultNotice hbegun rfl (hladder.trans (State.reversibleCause_eq _ c)) rfl, ← recordAfter_heldMode]
  rfl

theorem HeldSet.isEmpty_iff (x : HeldSet) : x.isEmpty = true ↔ x = ⟨false, false⟩ := by
  obtain ⟨d, u⟩ := x
  simp [HeldSet.isEmpty]

/-- A cause that is not in the held-cause set has nothing to leave (R158). -/
theorem dropHeld_of_addHeld_ne {c : Reversible} {x : HeldSet} (h : addHeld c x ≠ x) : dropHeld c x = x := by
  obtain ⟨d, u⟩ := x
  cases c
  · cases d
    · rfl
    · exact absurd rfl h
  · cases u
    · rfl
    · exact absurd rfl h

section
variable {s : State} (hbegun : s.begun = true)
include hbegun

theorem exec_causeCleared (c : Reversible) :
    exec (.causeCleared c) s = .next ((s.take (.causeCleared c)).clearCause c) := congrArg Host.Outcome.next (if_pos hbegun)

theorem exec_causeCleared_recovers {c : Reversible} (hmode : s.fault.mode = .held) (hheld : s.fault.held.isEmpty = false)
    (hlast : dropHeld c s.fault.held = ⟨false, false⟩) : exec (.causeCleared c) s = .next
      { s with
        fault := { s.fault with held := ⟨false, false⟩, mode := .active }
        handed := s.handed.erase (.causeCleared c)
          ++ [.modeChangeToDriver .active, moduleAlert .moduleRecovered 0] } := by
  rw [exec_causeCleared hbegun, ← hlast]
  exact congrArg Host.Outcome.next
    (State.clearCause_recovers (s := s.take (.causeCleared c)) hmode hheld ((HeldSet.isEmpty_iff _).2 hlast))

theorem exec_causeCleared_stands {c : Reversible}
    (h : s.fault.mode ≠ .held ∨ s.fault.held.isEmpty = true ∨ (dropHeld c s.fault.held).isEmpty = false) :
    exec (.causeCleared c) s = .next
      { s with
        fault := { s.fault with held := dropHeld c s.fault.held }, handed := s.handed.erase (.causeCleared c) } :=
  (exec_causeCleared hbegun c).trans
    (congrArg Host.Outcome.next (State.clearCause_stands (s := s.take (.causeCleared c)) h))

end

/-- A record that carries its latch flag gains nothing (R162). -/
theorem map_latchRecord {record : Option FaultRecord} (h : ∀ r, record = some r → r.latch = true) :
    record.map latchRecord = record := by
  cases record with
  | none => rfl
  | some r => simp [latchRecord, ← h r rfl]

/-- An observation only enters the cause-seen set, where a record in LATCHED carries its latch flag (R156, R161, R163). -/
theorem exec_observation {s : State} (hbegun : s.begun = true) (o : Observation)
    (hlatch : s.fault.mode = .latched → ∀ r, s.fault.record = some r → r.latch = true) :
    exec (.faultNotice (.observation o)) s = .next (s.noted (.observation o)) := by
  have hrecord : (if s.fault.mode = .latched then s.fault.record.map latchRecord else s.fault.record) =
      s.fault.record := by
    split
    · next h => exact map_latchRecord (hlatch h)
    · rfl
  have hnotice : (s.take (.faultNotice (.observation o))).takeNotice (.observation o) =
      { s.noted (.observation o) with fault := { (s.noted (.observation o)).fault with
          record := if s.fault.mode = .latched then s.fault.record.map latchRecord else s.fault.record } } :=
    State.takeNotice_uncaptured rfl
  rw [hrecord] at hnotice
  exact (congrArg Host.Outcome.next (if_pos hbegun)).trans (congrArg Host.Outcome.next hnotice)

/-- A notice marked for recording acts by no class (R110, R148). -/
theorem exec_markedFault {s : State} (hbegun : s.begun = true) (x : ChannelCause) (ch : Channel) :
    exec (.faultNotice (.channelFault x ch true)) s = .next
      { s.noted (.channelFault x ch true) with fault := { (s.noted (.channelFault x ch true)).fault with
          record := recordAfter s (.channelFault x ch true) s.fault.mode } } :=
  exec_faultNotice hbegun rfl rfl rfl

/-- Settles O55: the cause entering and leaving the held-cause set, the observation, and the marked notice. -/
theorem reversibleCauseHolds : Obligations.ReversibleCauseHolds := by
  intro cause code before after s testRuns hbegun hbefore htests hcause
  replace htests : testRuns = s.testRunning := htests
  subst hbefore htests
  obtain ⟨rfl, rfl⟩ : code = reversibleCode cause ∧ after = addHeld cause s.fault.held := by
    rcases hcause with ⟨rfl, rfl, rfl⟩ | ⟨rfl, rfl, rfl⟩ <;> exact ⟨rfl, rfl⟩
  refine ⟨?_, fun hin hmode hsupply hdemand => ?_, fun left hin hleft hstays => ?_, fun hout => ?_,
    fun o bit ho hlatch => ?_, fun x ch hr => ?_, fun x ch hr hlatch => ?_⟩
  · have hhanded : (if s.fault.mode ∈ workingModes then modeHandoffs s.fault.mode .held s.testRunning
        ++ [moduleAlert .moduleHeld (reversibleCode cause)] else []) =
        if s.fault.mode ∈ workingModes then [Instr.modeChangeToDriver .held]
          ++ (if s.fault.mode = .quiet then [Instr.samplePeriodChange false, .quietReportChange false] else [])
          ++ (if s.fault.mode = .service ∧ s.testRunning = true then [Instr.abortEvent (.modeChange .held)] else [])
          ++ [Instr.alertHanded .moduleHeld none (reversibleCode cause)] else [] := by
      refine ite_congr rfl (fun h => ?_) fun _ => rfl
      rw [modeHandoffs_held h]
      rfl
    rw [exec_reversible hbegun, hhanded, recordAfter]
    cases s.fault.record <;> rfl
  · have hnone : dropHeld cause s.fault.held = ⟨false, false⟩ := by
      cases cause
      · simp [dropHeld, hsupply rfl]
      · simp [dropHeld, hdemand rfl]
    have hheld : s.fault.held.isEmpty = false := hin ▸ addHeld_isEmpty cause s.fault.held
    exact exec_causeCleared_recovers hbegun hmode hheld hnone
  · obtain rfl : left = dropHeld cause s.fault.held := by
      rw [hleft]
      cases cause <;> rfl
    exact exec_causeCleared_stands hbegun
      (hstays.imp_right fun h => .inr (Bool.eq_false_iff.2 (mt (HeldSet.isEmpty_iff _).1 h)))
  · have hsame := dropHeld_of_addHeld_ne hout
    have hstands : s.fault.held.isEmpty = true ∨ (dropHeld cause s.fault.held).isEmpty = false := by
      rw [hsame]
      exact Bool.eq_false_or_eq_true _
    rw [exec_causeCleared_stands hbegun (.inr hstands), hsame]
  · rw [exec_observation hbegun o hlatch]
    rcases ho with ⟨rfl, rfl⟩ | ⟨rfl, rfl⟩ <;> rfl
  · rw [exec_markedFault hbegun, recordAfter, hr]
    rfl
  · obtain ⟨r, hr⟩ := Option.ne_none_iff_exists'.1 hr
    have hrecord : recordAfter s (.channelFault x ch true) s.fault.mode = s.fault.record := by
      by_cases hm : s.fault.mode = .latched
      · simp [recordAfter, hr, hm, ← hlatch hm r hr]
      · simp [recordAfter, hr, hm]
    rw [exec_markedFault hbegun, hrecord]
    rfl

end Sys2Proof.Machine

namespace Sys2Proof.Machine

/-! ## The requests (R189 to R193, R198) -/

/-- A request for the service responder, by its kind as the reply carries it back (R189, R190). -/
def requestOf (c : Instr) : Option (Byte × ServiceReq) :=
  match c with
  | .readRecord r => some (reqReadRecord, r)
  | .readStats r => some (reqReadStats, r)
  | .clear r => some (reqClear, r)
  | .restart r => some (reqRestart, r)
  | .valveTest r => some (reqValveTest, r)
  | .badRequest kind r => some (kind, r)
  | _ => none

theorem requestOf_of_mem {c : Instr} {req : ServiceReq} {k : Byte} (h : c ∈ [Instr.readRecord req, .readStats req,
    .clear req, .restart req, .valveTest req, .badRequest k req]) : ∃ kind, requestOf c = some (kind, req) := by
  simp only [List.mem_cons, List.not_mem_nil, or_false] at h
  rcases h with rfl | rfl | rfl | rfl | rfl | rfl <;> exact ⟨_, rfl⟩

/-- The station once a request is taken and the quiet control has its notice, before the request is judged (R189). -/
def State.asked (s : State) (c : Instr) : State := (s.take c).hand [.wakeEvent .request]

/-- The target of a request is the three low bits of its first byte (R198; 12, section 12.4). -/
theorem requestTarget_eq (req : ServiceReq) : requestTarget req = req.byte0.toNat % 8 := by
  simp [requestTarget, bitsOf_eq]

section
variable {s : State} {c : Instr} {kind : Byte} {req : ServiceReq} (hc : requestOf c = some (kind, req))
include hc

theorem exec_request (s : State) : exec c s = .next ((s.take c).takeRequest kind req) := by
  cases c
  case readRecord | readStats | clear | restart | valveTest | badRequest =>
    obtain ⟨rfl, rfl⟩ := Prod.mk.inj (Option.some.inj hc)
    rfl
  all_goals cases hc

/-- A request for the own position, once the responder runs, is judged after the wake notice (R185, R189, R198). -/
theorem exec_request_judged (hon : s.responderOn = true) (hlength : req.length = 3)
    (htarget : req.byte0.toNat % 8 = s.position.val) :
    exec c s = .next ((s.asked c).judgeRequest kind req.arg) := by
  have hon' : (s.take c).responderOn = true := hon
  have htarget' : requestTarget req = (s.take c).position.val := by
    rw [← requestTarget_eq] at htarget
    exact htarget
  rw [exec_request hc, State.takeRequest]
  simp [hon', hlength, htarget', State.asked]

/-- Before the responder runs, and for another target, a request is ignored (R185, R189). -/
theorem exec_request_ignored
    (h : s.responderOn = false ∨ req.length = 3 ∧ req.byte0.toNat % 8 ≠ s.position.val) :
    exec c s = .next (s.take c) := by
  rw [exec_request hc, State.takeRequest]
  rcases h with h | ⟨hlength, htarget⟩
  · have hoff : (s.take c).responderOn = false := h
    simp [hoff]
  · have hother : requestTarget req ≠ (s.take c).position.val := by
      rw [← requestTarget_eq] at htarget
      exact htarget
    simp [hlength, hother]

end

/-! ### READ_RECORD and READ_STATS (R191) -/

theorem natBytes_two (n : Nat) : natBytes 2 n = [natByte (n / 256), natByte n] := by
  simp [natBytes, List.range_succ, Nat.shiftRight_eq_div_pow]

theorem natBytes_four (n : Nat) :
    natBytes 4 n = [natByte (n / 16777216), natByte (n / 65536), natByte (n / 256), natByte n] := by
  simp [natBytes, List.range_succ, Nat.shiftRight_eq_div_pow]

/-- The low byte of a number is that of its low 14 bits. -/
theorem natByte_mod (n : Nat) : natByte (n % 16384) = natByte n := by
  apply BitVec.eq_of_toNat_eq
  simp only [natByte_toNat]
  omega

/-- The cause codes of 08, section 8.2. -/
theorem causeCode_eq {x : Cause} {n : Nat} (h : (x, n) ∈ [(Cause.channel .speedWire, 1), (.channel .speedJump, 2),
    (.channel .speedDead, 3), (.channel .chamberSensor, 4), (.channel .valveOpen, 5), (.channel .valveShort, 6),
    (.channel .releaseOverrun, 7), (.channel .tracking, 8), (.reversible .demandLost, 9), (.reversible .supplyUnder, 10),
    (.configBad, 11), (.positionClash, 12), (.allChannels, 13), (.promoted, 14), (.observation .linkSilent, 15),
    (.observation .auxSensor, 16)]) : causeCode x = n := by
  simp only [List.mem_cons, Prod.mk.injEq, List.not_mem_nil, or_false] at h
  rcases h with ⟨rfl, rfl⟩ | ⟨rfl, rfl⟩ | ⟨rfl, rfl⟩ | ⟨rfl, rfl⟩ | ⟨rfl, rfl⟩ | ⟨rfl, rfl⟩ | ⟨rfl, rfl⟩ | ⟨rfl, rfl⟩ |
    ⟨rfl, rfl⟩ | ⟨rfl, rfl⟩ | ⟨rfl, rfl⟩ | ⟨rfl, rfl⟩ | ⟨rfl, rfl⟩ | ⟨rfl, rfl⟩ | ⟨rfl, rfl⟩ | ⟨rfl, rfl⟩ <;> rfl

/-- The phase codes of a record, 15 for none (12, section 12.4). -/
theorem recordPhaseCode_eq {x : Option Phase} {n : Nat} (h : (x, n) ∈ [(some Phase.inactive, 0), (some .follow, 1),
    (some .capped, 2), (some .hold, 3), (some .release, 4), (some .recover, 5), (some .reapply, 6), (some .passive, 7),
    (some .test, 8), (none, 15)]) : recordPhaseCode x = n := by
  rcases x with _ | x
  · simpa [recordPhaseCode, eq_comm] using h
  · cases x <;> simpa [recordPhaseCode, eq_comm] using h

/-- The 12 data bytes of a captured record (12, section 12.4). -/
theorem recordData_some {f : FaultUnit} {x : FaultRecord} (clamped : Bool) (h : f.record = some x) :
    recordData f clamped =
      [natByte (128 + (if x.latch then 64 else 0) + (if clamped then 32 else 0) + (if f.supplyEvent then 16 else 0)),
        natByte (causeCode x.cause), natByte (64 * channelCode x.channel + 8 * modeCode x.modeBefore),
        natByte (16 * recordPhaseCode x.phase), natByte (x.time / 16777216), natByte (x.time / 65536),
        natByte (x.time / 256), natByte x.time, natByte (x.vref % 16384 / 256), natByte x.vref,
        natByte (f.seen.toNat / 256), natByte f.seen.toNat] := by
  simp [recordData, h, flagAt, natBytes_two, natBytes_four, natByte_mod]

/-- The 12 data bytes of an empty record (12, section 12.4). -/
theorem recordData_none {f : FaultUnit} (clamped : Bool) (h : f.record = none) : recordData f clamped =
    [natByte ((if clamped then 32 else 0) + (if f.supplyEvent then 16 else 0)), 0, 0, natByte 240, 0, 0, 0, 0, 0, 0,
      natByte (f.seen.toNat / 256), natByte f.seen.toNat] := by
  simp [recordData, h, flagAt, natBytes_two, natBytes_four, recordPhaseCode, natByte]

/-- The 12 data bytes of the link statistics (12, section 12.4). -/
theorem statsData_eq (x : LinkStats) : statsData x =
    [natByte (x.receiveErrors / 256), natByte x.receiveErrors, natByte (x.foreignFrames / 256), natByte x.foreignFrames,
      natByte (x.transmitErrors / 256), natByte x.transmitErrors, natByte (x.alertDrops / 256), natByte x.alertDrops,
      natByte (x.duplicates / 256), natByte x.duplicates, natByte (x.gaps / 256), natByte x.gaps] := by
  simp [statsData, natBytes_two]

theorem replyBytes_done (p : Position) (kind : Byte) (data : List Byte) :
    replyBytes p kind .done .none data = [kind, natByte p.val] ++ data := by
  simp [replyBytes, outcomeCode, reasonCode]

/-- A request taken is no clearing taken: a READ_RECORD shows the memory as the clearing leaves it (R192). -/
theorem State.asked_shownMemory (s : State) {c : Instr} (hc : c ≠ .serviceClear) :
    (s.asked c).shownMemory = s.shownMemory := by
  have hcontains : (s.asked c).handed.contains .serviceClear = s.handed.contains .serviceClear := by
    rw [Bool.eq_iff_iff]
    simp [State.asked, List.mem_erase_of_ne hc.symm]
  rw [State.shownMemory, hcontains]
  rfl

/-- A reply of its kind in the reply slot, the wake notice handed (R189, R190). -/
def State.answered (s : State) (c : Instr) (payload : List Byte) : State :=
  { s with handed := s.handed.erase c ++ [.wakeEvent .request]
           link := { s.link with reply := { s.link.reply with waiting := some ⟨payload, false⟩ } } }

theorem State.asked_reply (s : State) (c : Instr) (kind : Byte) (o : ReplyOutcome) (why : ReplyReason)
    (data : List Byte) : (s.asked c).reply kind o why data = s.answered c (replyBytes s.position kind o why data) := rfl

/-! ### CLEAR and RESTART (R189, R192, R193) -/

theorem State.acceptClear_eq (s : State) : s.acceptClear =
    { s with
      handed := s.handed ++ [.serviceClear]
      link := { s.link with
        stats := LinkStats.zero
        reply := { s.link.reply with waiting := some ⟨[reqClear, natByte s.position.val], false⟩ } } } := by
  rw [State.acceptClear, State.reply, replyBytes_done]
  rfl

theorem State.acceptRestart_eq (s : State) : s.acceptRestart =
    { s with
      link := { s.link with reply := { s.link.reply with
        waiting := some ⟨[reqRestart, natByte s.position.val], true⟩ } }
      service := { s.service with restartMark := true, restartTimer := some ⟨s.now, 100000⟩ } } := by
  rw [State.acceptRestart, replyBytes_done]
  rfl

section
variable {s : State} (kind : Byte) (accept : State → State)

/-- A free and still station that does not brake accepts (R189). -/
theorem State.judgeCommon_accepted (h : s.responderBusy = false) (hv : s.view.vref = 0)
    (hb : s.pressure.braking = false) : s.judgeCommon kind accept = accept s := by
  simp [State.judgeCommon, State.commonRefusal, h, hv, hb]

/-- The refusals by their codes, in the order of R189. -/
theorem State.judgeCommon_refused {why : Nat}
    (h : (why = 3 ∧ s.responderBusy = true) ∨ (why = 1 ∧ s.responderBusy = false ∧ s.view.vref ≠ 0)
      ∨ (why = 2 ∧ s.responderBusy = false ∧ s.view.vref = 0 ∧ s.pressure.braking = true)) :
    ∃ reason, reasonCode reason = why ∧ s.judgeCommon kind accept = s.refuse kind reason := by
  rcases h with ⟨rfl, hf⟩ | ⟨rfl, hf, hv⟩ | ⟨rfl, hf, hv, hb⟩
  · exact ⟨.busy, rfl, by simp [State.judgeCommon, State.commonRefusal, hf]⟩
  · exact ⟨.moving, rfl, by simp [State.judgeCommon, State.commonRefusal, hf, hv]⟩
  · exact ⟨.braking, rfl, by simp [State.judgeCommon, State.commonRefusal, hf, hv, hb]⟩

end

/-- A kind that is not known, and a VALVE_TEST whose argument names no channel (R189). -/
theorem State.judgeRequest_bad (s : State) {kind arg : Byte}
    (h : kind.toNat = 0 ∨ 5 < kind.toNat ∨ (kind.toNat = 5 ∧ (arg.toNat = 0 ∨ 2 < arg.toNat))) :
    s.judgeRequest kind arg = s.refuse kind .badRequest := by
  by_cases hkind : kind.toNat = 5
  · obtain rfl : kind = reqValveTest := BitVec.eq_of_toNat_eq hkind
    have hnone : s.testChannel arg = none := State.testChannel_eq_none (by omega)
    exact State.judgeTest_unnamed hnone
  · have hne : ∀ k : Byte, k.toNat ∈ [1, 2, 3, 4, 5] → kind ≠ k := by
      rintro k hk rfl
      simp only [List.mem_cons, List.not_mem_nil, or_false] at hk
      omega
    simp [State.judgeRequest, hne reqReadRecord (by decide), hne reqReadStats (by decide), hne reqClear (by decide),
      hne reqRestart (by decide), hne reqValveTest (by decide)]

theorem State.responderBusy_iff (s : State) :
    s.responderBusy = true ↔ s.service.test ≠ .none ∨ s.service.restartMark = true := by
  simp [State.responderBusy]

/-! ### Each request for the own position, once the responder runs (R189 to R193) -/

section
variable {s : State} {req : ServiceReq} (hon : s.responderOn = true) (hlength : req.length = 3)
  (htarget : req.byte0.toNat % 8 = s.position.val)
include hon hlength htarget

theorem exec_readRecord : exec (.readRecord req) s = .next (s.answered (.readRecord req)
    ([reqReadRecord, natByte s.position.val] ++ recordData s.shownMemory s.startup.clamped)) := by
  rw [← replyBytes_done, ← s.asked_shownMemory (c := .readRecord req) nofun]
  exact exec_request_judged (c := .readRecord req) rfl hon hlength htarget

theorem exec_readStats : exec (.readStats req) s = .next (s.answered (.readStats req)
    ([reqReadStats, natByte s.position.val] ++ statsData s.link.stats)) := by
  rw [← replyBytes_done]
  exact exec_request_judged (c := .readStats req) rfl hon hlength htarget

theorem exec_badRequest {k : Byte}
    (hk : k.toNat = 0 ∨ 5 < k.toNat ∨ (k.toNat = 5 ∧ (req.arg.toNat = 0 ∨ 2 < req.arg.toNat))) :
    exec (.badRequest k req) s = .next (s.answered (.badRequest k req) [k, natByte (232 + s.position.val)]) := by
  rw [exec_request_judged (c := .badRequest k req) rfl hon hlength htarget, State.judgeRequest_bad _ hk]
  rfl

/-- CLEAR judged (R189). -/
theorem exec_clear_judged : exec (.clear req) s =
    .next ((s.asked (.clear req)).judgeCommon reqClear State.acceptClear) :=
  exec_request_judged (c := .clear req) rfl hon hlength htarget

/-- RESTART judged (R189). -/
theorem exec_restart_judged : exec (.restart req) s =
    .next ((s.asked (.restart req)).judgeCommon reqRestart State.acceptRestart) :=
  exec_request_judged (c := .restart req) rfl hon hlength htarget

section
variable (hfree : s.responderBusy = false) (hv : s.view.vref = 0) (hb : s.pressure.braking = false)
include hfree hv hb

/-- An accepted CLEAR (R192). -/
theorem exec_clear_accepted : exec (.clear req) s = .next
    { s with
      handed := s.handed.erase (.clear req) ++ [.wakeEvent .request, .serviceClear]
      link := { s.link with
        stats := LinkStats.zero
        reply := { s.link.reply with waiting := some ⟨[reqClear, natByte s.position.val], false⟩ } } } := by
  have hhanded : (s.asked (.clear req)).handed ++ [.serviceClear] =
      s.handed.erase (.clear req) ++ [.wakeEvent .request, .serviceClear] := List.append_assoc ..
  rw [exec_clear_judged hon hlength htarget, State.judgeCommon_accepted (s := s.asked _) _ _ hfree hv hb,
    State.acceptClear_eq, hhanded]
  rfl

/-- An accepted RESTART (R193). -/
theorem exec_restart_accepted : exec (.restart req) s = .next
    { s with
      handed := s.handed.erase (.restart req) ++ [.wakeEvent .request]
      link := { s.link with reply := { s.link.reply with
        waiting := some ⟨[reqRestart, natByte s.position.val], true⟩ } }
      service := { s.service with restartMark := true, restartTimer := some ⟨s.now, 100000⟩ } } := by
  rw [exec_restart_judged hon hlength htarget, State.judgeCommon_accepted (s := s.asked _) _ _ hfree hv hb,
    State.acceptRestart_eq]
  rfl

end

/-- CLEAR and RESTART refused, in the order of R189. -/
theorem exec_common_refused {c : Instr} {kind why : Nat} (hc : c = .clear req ∧ kind = 3 ∨ c = .restart req ∧ kind = 4)
    (h : (why = 3 ∧ s.responderBusy = true) ∨ (why = 1 ∧ s.responderBusy = false ∧ s.view.vref ≠ 0)
      ∨ (why = 2 ∧ s.responderBusy = false ∧ s.view.vref = 0 ∧ s.pressure.braking = true)) :
    exec c s = .next (s.answered c [natByte kind, natByte (192 + 8 * why + s.position.val)]) := by
  obtain ⟨accept, hexec⟩ : ∃ accept, exec c s = .next ((s.asked c).judgeCommon (natByte kind) accept) := by
    rcases hc with ⟨rfl, rfl⟩ | ⟨rfl, rfl⟩
    · exact ⟨_, exec_clear_judged hon hlength htarget⟩
    · exact ⟨_, exec_restart_judged hon hlength htarget⟩
  obtain ⟨reason, rfl, hrefused⟩ := State.judgeCommon_refused (s := s.asked c) (natByte kind) accept h
  rw [hexec, hrefused, State.refuse_eq]
  rfl

end

/-- Settles O58: each kind of request answered, refused by the order of R189, and ignored. -/
theorem requestsAreAnswered : Obligations.RequestsAreAnswered := by
  refine ⟨fun req p w b replied s hon hlength hp hw hb hreplied => ⟨fun htarget => ?_, fun htarget k c hc => ?_⟩,
    fun req k s hoff c hc => ?_⟩
  · obtain rfl : b = natByte := funext hb
    obtain rfl : replied = s.answered := by
      subst hw
      exact funext fun c => funext fun bytes => hreplied c bytes
    subst hp hw
    have hrecord := exec_readRecord hon hlength htarget
    refine ⟨fun x cause chan mode phase flags hclear hx hcause hchan hmode hphase hflags => ?_,
      fun flags seen h => ?_, fun x hx => ?_, fun htest hmark hv hbrake => ?_,
      fun k => exec_badRequest hon hlength htarget, fun c kind why hc hwhy => ?_⟩
    · have hshown : s.shownMemory = s.fault := if_neg (Bool.eq_false_iff.1 hclear)
      rw [hrecord, hshown, recordData_some _ hx, causeCode_eq hcause, channelCode_eq hchan, modeCode_eq hmode,
        recordPhaseCode_eq hphase, hflags]
      rfl
    · rcases h with ⟨hclear, hnone, rfl, rfl⟩ | ⟨hclear, rfl, rfl⟩
      · have hshown : s.shownMemory = s.fault := if_neg (Bool.eq_false_iff.1 hclear)
        rw [hrecord, hshown, recordData_none _ hnone]
        rfl
      · have hshown : s.shownMemory = emptyMemory s.fault := if_pos hclear
        rw [hrecord, hshown, recordData_none _ rfl]
        rfl
    · rw [exec_readStats hon hlength htarget, statsData_eq, hx]
      rfl
    · have hfree := (State.responderBusy_eq_false_iff s).2 ⟨htest, hmark⟩
      exact ⟨exec_clear_accepted hon hlength htarget hfree hv hbrake,
        exec_restart_accepted hon hlength htarget hfree hv hbrake⟩
    · refine exec_common_refused hon hlength htarget hc ?_
      rw [s.responderBusy_iff, s.responderBusy_eq_false_iff]
      simpa only [and_assoc] using hwhy
  · obtain ⟨kind, hkind⟩ := requestOf_of_mem hc
    exact exec_request_ignored hkind (.inr ⟨hlength, hp ▸ htarget⟩)
  · obtain ⟨kind, hkind⟩ := requestOf_of_mem hc
    exact exec_request_ignored hkind (.inl hoff)

end Sys2Proof.Machine

namespace Sys2Proof.Machine

/-! ## Supply readings (R167 to R171) -/

@[simp] theorem elapsed_self (m : Time) : elapsed m m = 0 := by simp [elapsed]

/-- A run that begins now has the age 0. -/
@[simp] theorem elapsed_getD_begun (p : Prop) [Decidable p] (m : Time) :
    elapsed m ((if p then some m else none).getD m) = 0 := by split <;> simp

/-- A run that begins now has the age 0: an age limit is reached only by a run that stands. -/
theorem aged_iff_getD {n : Nat} (hn : 0 < n) (run : Option Time) (t : Time) :
    aged run t n = true ↔ n ≤ elapsed t (run.getD t) := by
  cases run with
  | none => simpa [aged] using hn.ne'
  | some t0 => exact decide_eq_true_iff

/-- The run a condition leaves at `t`: kept or begun while it holds (R168). -/
theorem runWhile_eq (cond : Bool) (run : Option Time) (t : Time) :
    runWhile cond run t = if cond = true then some (run.getD t) else none := by
  simpa using runWhile_decide (cond = true) run t

/-- The runs after a reading, each in the states that keep it (R168). -/
theorem updateRuns_eq (x : ReadingClass) (t : Time) (u : Supply) : updateRuns x t u = { u with
    underRun := if u.state ≠ .under ∧ x.belowUnder = true then some (u.underRun.getD t) else none
    recoveryRun := if u.state ≠ .normal ∧ x.atRecovery = true then some (u.recoveryRun.getD t) else none
    riseRun := if u.state = .under ∧ x.atUnderExit = true then some (u.riseRun.getD t) else none } := by
  simp only [updateRuns, runWhile_eq, keepsUnder, keepsRecovery, keepsRise, Bool.and_eq_true, decide_eq_true_eq]

/-- The state after a reading, by the state before and the ages of the runs (R169, R170). -/
theorem nextSupplyState_eq (x : ReadingClass) (t : Time) (u : Supply) : nextSupplyState x t u =
    if u.state = .under then
      if 200000 ≤ elapsed t (u.riseRun.getD t) then
        (if 100000 ≤ elapsed t (u.recoveryRun.getD t) then .normal else .sag)
      else .under
    else if 50000 ≤ elapsed t (u.underRun.getD t) then .under
    else if u.state = .normal then (if x.belowSag = true then .sag else .normal)
    else if 100000 ≤ elapsed t (u.recoveryRun.getD t) then .normal else .sag := by
  cases h : u.state <;> simp [nextSupplyState, h, aged_iff_getD]

/-- The runs a new state keeps (R168): the rise run only where UNDER stands. -/
theorem enterSupplyState_eq {y : SupplyState} {u : Supply} (hrise : u.state ≠ .under → u.riseRun = none) :
    enterSupplyState y u = { u with
      state := y
      underRun := if y = .under then none else u.underRun
      recoveryRun := if y = .normal then none else u.recoveryRun
      riseRun := if y = .under then u.riseRun else none } := by
  have hkept : (if keepsRise y && keepsRise u.state then u.riseRun else none)
      = if y = .under then u.riseRun else none := by
    by_cases hu : u.state = .under <;> simp [keepsRise, hu, hrise]
  rw [enterSupplyState, hkept]
  cases y <;> rfl

/-- The runs `u`, `r`, `e` and the state `y` that a reading of the class `x` settles, as R168 to R170 give them. -/
structure Supply.Settles (x : ReadingClass) (m : Time) (p : Supply) (u r e : Option Time) (y : SupplyState) : Prop where
  underRun : u = if p.state ≠ .under ∧ x.belowUnder = true then some (p.underRun.getD m) else none
  recoveryRun : r = if p.state ≠ .normal ∧ x.atRecovery = true then some (p.recoveryRun.getD m) else none
  riseRun : e = if p.state = .under ∧ x.atUnderExit = true then some (p.riseRun.getD m) else none
  state : y = if p.state = .under then
      if 200000 ≤ elapsed m (e.getD m) then (if 100000 ≤ elapsed m (r.getD m) then .normal else .sag) else .under
    else if 50000 ≤ elapsed m (u.getD m) then .under
    else if p.state = .normal then (if x.belowSag = true then .sag else .normal)
    else if 100000 ≤ elapsed m (r.getD m) then .normal else .sag

/-- A reading judged, whole: the state and the runs it keeps, and the change handed on (R168 to R171). -/
theorem State.judgeSupply_eq {s : State} {m : Time} {x : ReadingClass} {u r e : Option Time} {y : SupplyState}
    (value : Nat) (h : s.supply.Settles x m u r e y) : s.judgeSupply m x value = { s with
      supply := { s.supply with
        state := y, value := value, underRun := if y = .under then none else u,
        recoveryRun := if y = .normal then none else r, riseRun := if y = .under then e else none }
      handed := s.handed ++ (if s.supply.state = .under ∧ y ≠ .under then [.causeCleared .supplyUnder] else [])
        ++ (if s.supply.state ≠ .sag ∧ y = .sag then [.supplySagNotice, .sagEntry, .abortEvent .sagEntry] else [])
        ++ (if s.supply.state ≠ .under ∧ y = .under then [Instr.faultNotice (.reversible .supplyUnder)] else []) } := by
  obtain ⟨hu, hr, he, hy⟩ := h
  have hruns : updateRuns x m { s.supply with value := value } =
      { s.supply with value := value, underRun := u, recoveryRun := r, riseRun := e } := by
    rw [updateRuns_eq, hu, hr, he]
  have hnext : nextSupplyState x m { s.supply with value := value, underRun := u, recoveryRun := r, riseRun := e } = y := by
    rw [nextSupplyState_eq, hy]
  have hrise : s.supply.state ≠ .under → e = none := fun h => by rw [he, if_neg (fun hc => h hc.1)]
  rw [State.judgeSupply]
  dsimp only
  rw [hruns, hnext, enterSupplyState_eq hrise, State.hand]
  simp only [supplyHandoffs, List.append_assoc, and_comm]

/-! ### The changes of supply state (R169, R170) -/

section
variable {p : Supply} {x : ReadingClass} {m t0 t1 : Time}

/-- NORMAL without an under run becomes SAG at the first reading below the SAG threshold. -/
theorem Supply.settles_of_normal (hs : p.state = .normal) (hu : p.underRun = none) :
    p.Settles x m (if x.belowUnder = true then some m else none) none none
      (if x.belowSag = true then .sag else .normal) where
  underRun := by simp [hs, hu]
  recoveryRun := by simp [hs]
  riseRun := by simp [hs]
  state := by simp [hs]

/-- SAG stands where no run stands. -/
theorem Supply.settles_sag_stays (hs : p.state = .sag) (hu : p.underRun = none) (hr : p.recoveryRun = none) :
    p.Settles x m (if x.belowUnder = true then some m else none) (if x.atRecovery = true then some m else none) none
      .sag where
  underRun := by simp [hs, hu]
  recoveryRun := by simp [hs, hr]
  riseRun := by simp [hs]
  state := by simp [hs]

/-- An under run of 50 ms enters UNDER. -/
theorem Supply.settles_sag_under (hs : p.state = .sag) (hu : p.underRun = some t0) (hx : x.belowUnder = true)
    (hage : 50000 ≤ elapsed m t0) :
    p.Settles x m (some t0) (if x.atRecovery = true then some (p.recoveryRun.getD m) else none) none .under where
  underRun := by simp [hs, hu, hx]
  recoveryRun := by simp [hs]
  riseRun := by simp [hs]
  state := by simp [hs, hage]

/-- A recovery run of 100 ms leaves SAG for NORMAL. -/
theorem Supply.settles_sag_normal (hs : p.state = .sag) (hr : p.recoveryRun = some t0) (hlow : x.belowUnder = false)
    (hx : x.atRecovery = true) (hage : 100000 ≤ elapsed m t0) : p.Settles x m none (some t0) none .normal where
  underRun := by simp [hlow]
  recoveryRun := by simp [hs, hr, hx]
  riseRun := by simp [hs]
  state := by simp [hs, hage]

/-- A rise run of 200 ms leaves UNDER for NORMAL with a recovery run of 100 ms. -/
theorem Supply.settles_under_normal (hs : p.state = .under) (he : p.riseRun = some t0) (hx : x.atUnderExit = true)
    (hage : 200000 ≤ elapsed m t0) (hr : p.recoveryRun = some t1) (hxr : x.atRecovery = true)
    (hager : 100000 ≤ elapsed m t1) : p.Settles x m none (some t1) (some t0) .normal where
  underRun := by simp [hs]
  recoveryRun := by simp [hs, hr, hxr]
  riseRun := by simp [hs, he, hx]
  state := by simp [hs, hage, hager]

/-- A rise run of 200 ms leaves UNDER for SAG without a recovery run. -/
theorem Supply.settles_under_sag (hs : p.state = .under) (he : p.riseRun = some t0) (hx : x.atUnderExit = true)
    (hage : 200000 ≤ elapsed m t0) (hr : p.recoveryRun = none) :
    p.Settles x m none (if x.atRecovery = true then some m else none) (some t0) .sag where
  underRun := by simp [hs]
  recoveryRun := by simp [hs, hr]
  riseRun := by simp [hs, he, hx]
  state := by simp [hs, hage]

/-- UNDER stands below the UNDER exit threshold. -/
theorem Supply.settles_under_stays (hs : p.state = .under) (hx : x.atUnderExit = false) :
    p.Settles x m none (if x.atRecovery = true then some (p.recoveryRun.getD m) else none) none .under where
  underRun := by simp [hs]
  recoveryRun := by simp [hs]
  riseRun := by simp [hx]
  state := by simp [hs]

end

/-! ### SUPPLY_SAMPLE -/

/-- The state in which a due sample is judged: the next is due on the grid of the timer (R168; log entry 24). -/
def State.supplyTimed (s : State) (m : Time) (w : Timer) : State :=
  { s with now := m, supply := { s.supply with timer := some { w with setAt := w.setAt + BitVec.ofNat 32 w.period } } }

@[simp] theorem State.supplyTimed_supply (s : State) (m : Time) (w : Timer) : (s.supplyTimed m w).supply =
    { s.supply with timer := some { w with setAt := w.setAt + BitVec.ofNat 32 w.period } } := rfl

@[simp] theorem State.supplyTimed_handed (s : State) (m : Time) (w : Timer) :
    (s.supplyTimed m w).handed = s.handed := rfl

section
variable {s : State} {m : Time}

/-- A due sample is judged by the thresholds of the nominal voltage (R167, R168). -/
theorem exec_supplySample_due {n : Nominal} {w : Timer} (value : Nat) (hnominal : s.startup.nominal = some n)
    (hw : s.supply.timer = some w) (hage : w.period ≤ (m - w.setAt).toNat) : exec (.supplySample m value) s = .next
      ((s.supplyTimed m w).judgeSupply m (classify (thresholdsOf n) (min 4095 value)) (min 4095 value)) := by
  have hdue : timerDue (s.stamp m).supply.timer m = true := (timerDue_iff _ _).2 ⟨w, hw, hage⟩
  have hnominal' : (s.stamp m).startup.nominal = some n := hnominal
  have hnext : nextPeriod (s.stamp m).supply.timer = some { w with setAt := w.setAt + BitVec.ofNat 32 w.period } := by
    show nextPeriod s.supply.timer = _
    rw [hw]
    rfl
  show Host.Outcome.next ((s.stamp m).takeSupplySample m value) = _
  rw [State.takeSupplySample, hnominal', hnext]
  exact congrArg Host.Outcome.next (if_pos hdue)

/-- A sample before the straps or before it is due is void (log entry 7). -/
theorem exec_supplySample_void (value : Nat) (h : s.startup.nominal = none ∨ timerDue s.supply.timer m = false) :
    exec (.supplySample m value) s = .next (s.stamp m) := by
  refine congrArg Host.Outcome.next ?_
  unfold State.takeSupplySample
  split
  · next n hn =>
    refine if_neg (Bool.eq_false_iff.1 (h.resolve_left fun hnone => ?_))
    cases hn.symm.trans hnone
  · rfl

/-! ### BROWN_OUT_NOTICE and BROWN_OUT_RISE (R172) -/

/-- A first fall begins the 1 ms and is judged as a sample below every threshold, of a free value (R172; log entry 4). -/
theorem exec_brownOutNotice_first (h : s.supply.brownOut = none) : exec (.brownOutNotice m) s = .next
    (State.judgeSupply { s with
        now := m, freeIndex := s.freeIndex + 1, supply := { s.supply with brownOut := some ⟨m, 1000⟩ } }
      m belowAll (Config.freeLowSupply s.freeIndex).val) := by
  have hfirst : ¬ (s.stamp m).supply.brownOut.isSome = true := by
    show ¬ s.supply.brownOut.isSome = true
    simp [h]
  exact congrArg Host.Outcome.next (if_neg hfirst)

/-- A notice below 6.00 V already is no first fall (R172). -/
theorem exec_brownOutNotice_again (h : s.supply.brownOut ≠ none) : exec (.brownOutNotice m) s = .next (s.stamp m) :=
  congrArg Host.Outcome.next (if_pos (Option.isSome_iff_ne_none.2 h))

/-- A rise before the 1 ms has run ends the brown-out run, and nothing else (R172). -/
theorem exec_brownOutRise_early (h : timerDue s.supply.brownOut m = false) : exec (.brownOutRise m) s = .next
    { s with now := m, supply := { s.supply with brownOut := none } } :=
  congrArg Host.Outcome.next (if_neg (Bool.eq_false_iff.1 h))

/-- A rise once the 1 ms has run is void (log entry 7). -/
theorem exec_brownOutRise_late (h : timerDue s.supply.brownOut m = true) :
    exec (.brownOutRise m) s = .next (s.stamp m) := congrArg Host.Outcome.next (if_pos h)

/-- The state after a first fall, whole, by the under run and its age (R169, R172). -/
theorem exec_brownOutNotice_judged {u : Option Time} {y : SupplyState} (h : s.supply.brownOut = none)
    (hu : u = if s.supply.state = .under then none else some (s.supply.underRun.getD m))
    (hy : y = if s.supply.state = .under ∨ 50000 ≤ elapsed m (u.getD m) then .under else .sag) :
    exec (.brownOutNotice m) s = .next { s with
      now := m
      freeIndex := s.freeIndex + 1
      supply := { s.supply with
        state := y, value := (Config.freeLowSupply s.freeIndex).val, underRun := if y = .under then none else u,
        recoveryRun := none, riseRun := none, brownOut := some ⟨m, 1000⟩ }
      handed := s.handed
        ++ (if s.supply.state = .normal ∧ y = .sag then [.supplySagNotice, .sagEntry, .abortEvent .sagEntry] else [])
        ++ (if s.supply.state ≠ .under ∧ y = .under then [Instr.faultNotice (.reversible .supplyUnder)] else []) } := by
  have hsettles : Supply.Settles belowAll m { s.supply with brownOut := some ⟨m, 1000⟩ } u none none y := by
    refine ⟨?_, by simp [belowAll], by simp [belowAll], ?_⟩
    · by_cases hs : s.supply.state = .under <;> simp [hu, hs, belowAll]
    · rw [hy]
      cases s.supply.state <;> simp [belowAll]
  rw [exec_brownOutNotice_first h, State.judgeSupply_eq _ hsettles]
  cases hs : s.supply.state <;> simp [hy, hs]

end

/-- The thresholds of a nominal voltage are R167's. -/
theorem thresholdsOf_eq {n : Nominal} {sag recovery under underExit : Nat}
    (h : (n = .v24 ∧ sag = 2000 ∧ recovery = 2100 ∧ under = 1600 ∧ underExit = 1800)
      ∨ (n = .v12 ∧ sag = 1000 ∧ recovery = 1050 ∧ under = 800 ∧ underExit = 900)) :
    thresholdsOf n = ⟨sag, recovery, under, underExit⟩ := by
  rcases h with ⟨rfl, rfl, rfl, rfl, rfl⟩ | ⟨rfl, rfl, rfl, rfl, rfl⟩ <;> rfl

/-- Settles O15: sample and notice by the runs and their ages; each change of state is a case of the whole. -/
theorem supplyReadingsMoveState : Obligations.SupplyReadingsMoveState := by
  refine ⟨fun m value s n w sag recovery under underExit hnominal hw hage htable => ?_, fun m s hbrown hnormal hrun => ?_,
    fun m u y s hbrown hu hy => ⟨_, Fin.isLt _, exec_brownOutNotice_judged hbrown hu hy⟩,
    fun m s => exec_brownOutNotice_again, fun m s => exec_brownOutRise_early, fun m s => exec_brownOutRise_late,
    fun m value s => exec_supplySample_void value⟩
  · refine ⟨_, exec_supplySample_due value hnominal hw hage, ?_⟩
    rw [thresholdsOf_eq htable]
    have hjudged := @State.judgeSupply_eq (s.supplyTimed m w) m
      (classify ⟨sag, recovery, under, underExit⟩ (min 4095 value))
    refine ⟨rfl, rfl, rfl, fun hs hu hv => ?_, fun hs hu hv => ?_, fun t0 hs hu hv hage => ?_,
      fun t0 hs hr hv hage => ?_, fun hs hu hr => ?_, fun t0 t1 hs he hv hage hr hvr hager => ?_,
      fun t0 hs he hv hage hr => ?_, fun hs hv => ?_, fun v u r e y hv hu hr he hy => ?_⟩
    · have hx : ¬ min 4095 value < sag := by omega
      rw [hjudged _ (Supply.settles_of_normal hs hu)]
      simp [classify, hx, hs]
    · have hvalue : min 4095 value = value := by omega
      rw [hjudged _ (Supply.settles_of_normal hs hu), hvalue]
      simp [classify, hv, hs]
    · have hx : min 4095 value < under := by omega
      rw [hjudged _ (Supply.settles_sag_under hs hu (decide_eq_true hx) hage)]
      simp [hs]
    · have hx : ¬ min 4095 value < under := by omega
      rw [hjudged _ (Supply.settles_sag_normal hs hr (decide_eq_false hx) (decide_eq_true hv) hage)]
      simp [hs]
    · rw [hjudged _ (Supply.settles_sag_stays hs hu hr)]
      simp [hs]
    · rw [hjudged _ (Supply.settles_under_normal hs he (decide_eq_true hv) hage hr (decide_eq_true hvr)
        hager)]
      simp [hs]
    · rw [hjudged _ (Supply.settles_under_sag hs he (decide_eq_true hv) hage hr)]
      simp [hs]
    · have hx : ¬ underExit ≤ min 4095 value := by omega
      rw [hjudged _ (Supply.settles_under_stays hs (decide_eq_false hx))]
      simp [hs]
    · have hsettles : (s.supplyTimed m w).supply.Settles (classify ⟨sag, recovery, under, underExit⟩ (min 4095 value)) m
          u r e y := by
        subst hv
        constructor <;> simp only [classify, decide_eq_true_eq, State.supplyTimed_supply]
        exacts [hu, hr, he, hy]
      rw [hjudged _ hsettles, hv]
      exact ⟨rfl, rfl⟩
  · refine ⟨_, (Config.freeLowSupply s.freeIndex).isLt, ?_⟩
    rw [exec_brownOutNotice_judged (u := some m) (y := .sag) hbrown (by simp [hnormal, hrun]) (by simp [hnormal])]
    simp [hnormal]

end Sys2Proof.Machine

namespace Sys2Proof.Machine

/-! ## Standstill (R174, R176) -/

/-- An entry takes no part at standstill, or reports vref 0 or QUIET (R174). -/
theorem entryAtRest_iff (e : PeerEntry) :
    entryAtRest e = true ↔ (e.state = .fresh ∨ e.state = .stale → e.vref = 0 ∨ e.mode = .quiet) := by
  cases h : e.state <;> simp [entryAtRest, h]

theorem State.standstillHolds_iff (s : State) (pair : Sides Sample) : s.standstillHolds pair = true ↔
    s.view.vref = 0 ∧ pair.left.state = .standstill ∧ pair.right.state = .standstill
      ∧ ∀ p, (quadGet s.view.peers p).state = .fresh ∨ (quadGet s.view.peers p).state = .stale →
        (quadGet s.view.peers p).vref = 0 ∨ (quadGet s.view.peers p).mode = .quiet := by
  simp only [State.standstillHolds, Bool.and_eq_true, decide_eq_true_eq, List.all_eq_true, mem_positions, true_imp_iff,
    entryAtRest_iff, and_assoc]

section
variable {s : State} {pair : Sides Sample}

/-- The condition holds in ACTIVE with no run: the run begins (R174). -/
theorem State.judgeStandstill_begins (hmode : s.fault.mode = .active) (hstill : s.standstillHolds pair = true)
    (hrun : s.standstill = none) :
    (s.judgeStandstill pair).standstill = some s.now ∧ (s.judgeStandstill pair).handed = s.handed := by
  simp [State.judgeStandstill, hmode, hstill, hrun, runWhile, aged]

/-- The condition holds on in ACTIVE: the run keeps its start, and at 3000 ms the change into QUIET is handed (R174). -/
theorem State.judgeStandstill_lasts {t0 : Time} (hmode : s.fault.mode = .active)
    (hstill : s.standstillHolds pair = true) (hrun : s.standstill = some t0) :
    (s.judgeStandstill pair).standstill = some t0
      ∧ (s.judgeStandstill pair).handed = s.handed ++ if 3000000 ≤ (s.now - t0).toNat then [.quietEntry] else [] := by
  have hold : aged (some t0) s.now 3000000 = decide (3000000 ≤ (s.now - t0).toNat) := rfl
  rw [State.judgeStandstill, if_pos hmode, hstill, hrun, hold]
  by_cases hage : 3000000 ≤ (s.now - t0).toNat <;> simp only [hage] <;> simp [runWhile]

/-- The condition fails in ACTIVE: the run is absent (R174). -/
theorem State.judgeStandstill_fails (hmode : s.fault.mode = .active) (hstill : s.standstillHolds pair = false) :
    (s.judgeStandstill pair).standstill = none ∧ (s.judgeStandstill pair).handed = s.handed := by
  simp [State.judgeStandstill, hmode, hstill, runWhile]

/-- Outside ACTIVE the quiet control leaves an update alone (R174). -/
theorem State.judgeStandstill_of_ne (hmode : s.fault.mode ≠ .active) : s.judgeStandstill pair = s := if_neg hmode

/-- A sample pair is judged for standstill on the update as handed on (R61, R174; log entry 26). -/
theorem exec_samplePair_judged (hon : s.unitsOn = true) : exec (.samplePair pair) s = .next
    (((((s.take (.samplePair pair)).fillLanes pair).computeView).handUpdate pair).judgeStandstill pair) := by
  have hon' : (s.take (.samplePair pair)).unitsOn = true := hon
  exact congrArg Host.Outcome.next (if_pos hon')

end

/-- Settles O36: the condition judged on the update handed on, by the mode, the condition and the run. -/
theorem standstillEntersQuiet : Obligations.StandstillEntersQuiet := by
  intro pair s hon
  obtain ⟨u, hu⟩ : ∃ u, u = (((s.take (.samplePair pair)).fillLanes pair).computeView).handUpdate pair := ⟨_, rfl⟩
  have hfault : u.fault = s.fault := by rw [hu]; rfl
  have hrun : u.standstill = s.standstill := by rw [hu]; rfl
  have hnow : u.now = s.now := by rw [hu]; rfl
  have hpeers : u.view.peers = s.view.peers := by rw [hu]; rfl
  have hview : (u.judgeStandstill pair).view = u.view := by simp
  have hhanded : u.handed = s.handed.erase (.samplePair pair) ++ [.referenceUpdate ⟨u.view.vref, pair, u.view.mask⟩]
      ++ (if 0 < u.view.vref then [.wakeEvent (.reference u.view.vref)] else []) := by
    rw [hu, List.append_assoc]
    rfl
  refine ⟨u.judgeStandstill pair, u.handed, hu ▸ exec_samplePair_judged hon, by rw [hview, hhanded],
    fun still hstill => ?_⟩
  obtain rfl : still = u.standstillHolds pair := by
    rw [Bool.eq_iff_iff, hstill, State.standstillHolds_iff, hview, hpeers]
  rw [← hfault, ← hrun, ← hnow]
  refine ⟨State.judgeStandstill_begins, fun _ => State.judgeStandstill_lasts, State.judgeStandstill_fails, fun h => ?_⟩
  rw [State.judgeStandstill_of_ne h]
  exact ⟨rfl, rfl⟩

end Sys2Proof.Machine

namespace Sys2Proof.Machine

/-! ## Parameters in range and order settle to themselves (R183) -/

theorem clampTo_of_le {lo hi v : Nat} (hlo : lo ≤ v) (hhi : v ≤ hi) : clampTo lo hi v = v := by
  rw [clampTo, Nat.min_eq_right hhi, Nat.max_eq_right hlo]

theorem clampSensors_of_inRange {lo hi : Nat} {x : PerSensor} (h : x.inRange lo hi) : clampSensors lo hi x = x := by
  obtain ⟨hdemand, hchamber1, hchamber2, hreservoir⟩ := h
  simp only [clampSensors, clampTo_of_le, hdemand, hchamber1, hchamber2, hreservoir]

section
variable {p : Params}

/-- The order of v_min puts it in its own range: v_entry − 64 is at most 1216. -/
theorem Params.InRange.vMin_within (h : p.InRange) : within 192 1216 p.vMin :=
  ⟨h.vMin.1, by have hentry := h.vEntry.2; have horder := h.vMin.2; omega⟩

/-- The order of P_off puts it in its own range: P_on − 50 is at most 950. -/
theorem Params.InRange.pOff_within (h : p.InRange) : within 50 950 p.pOff :=
  ⟨h.pOff.1, by have hon := h.pOn.2; have horder := h.pOff.2; omega⟩

/-- Pass 1 leaves parameters that stand in their ranges. -/
theorem clampRanges_of_inRange (h : p.InRange) : clampRanges p = p := by
  simp only [clampRanges, clampTo_of_le, clampSensors_of_inRange, h.stations, h.teeth, h.circ, h.jumpLimit, h.ramps,
    h.tolerance, h.slip, h.a1, h.a2, h.a3, h.vEntry, h.vMin_within, h.pOn, h.pOff_within, h.deltaP, h.stepPeriod,
    h.tRelMax, h.yaw, h.pEcon, h.gains, h.uOn, h.offsets, h.sensorGains]

/-- Pass 2 leaves parameters that stand in their order. -/
theorem clampOrder_of_ordered (hoff : p.pOff + 50 ≤ p.pOn) (ha2 : p.a2 < p.a3) (hmin : p.vMin + 64 ≤ p.vEntry) :
    clampOrder p = p := by
  rw [clampOrder, Nat.min_eq_left (Nat.le_sub_of_add_le hoff), Nat.min_eq_left (Nat.le_sub_one_of_lt ha2),
    Nat.min_eq_left (Nat.le_sub_of_add_le hmin)]

theorem settleParams_of_inRange (h : p.InRange) : settleParams p = p := by
  rw [settleParams, clampRanges_of_inRange h, clampOrder_of_ordered h.pOff.2 h.a2.2 h.vMin.2]

end

/-- Settles O17: the settled set stands in its ranges and order, and a set that does is left by either pass, so settling
it again changes nothing. -/
theorem settledParametersInRange : Obligations.SettledParametersInRange :=
  ⟨fun p => ⟨settleParams_inRange p, settleParams_of_inRange (settleParams_inRange p), settleParams_of_inRange, rfl⟩,
    defaultParams_inRange⟩

end Sys2Proof.Machine

namespace Sys2Proof.Machine

/-! ## A step and the queue of commands (95; log entries 2 and 7) -/

/-- With a command waiting, a step is that command's effect on the station that holds the rest. -/
theorem step_of_pending {s : State} {c : Instr} {rest : List Instr} (h : s.pending = c :: rest) :
    step s = exec c { s with pending := rest } := by
  unfold step
  rw [h]

/-- Settles O1. -/
theorem stepRunsFrontCommand : Obligations.StepRunsFrontCommand :=
  fun _ _ _ => step_of_pending rfl

/-- Every command has a meaning, and it is a next state: none faults and none is refused. -/
theorem exec_completes (c : Instr) (s : State) : ∃ t, exec c s = .next t := by
  cases c <;> exact ⟨_, rfl⟩

/-- A hand-off keeps the queue when its effect does: taking it off `handed`, or leaving it there out of turn, never touches
the queue (R86, R147, R155). -/
theorem State.takeInTurn_pending {s : State} {c : Instr} {f : State → State}
    (hf : ∀ u : State, (f u).pending = u.pending) : (s.takeInTurn c f).pending = s.pending :=
  State.takeInTurn_of (P := fun u => u.pending = s.pending) rfl (hf (s.take c))

/-- Every effect keeps the queue: a reset carries it over, a hand-off keeps it in turn and out of turn, and any other command
is an operation that frames it. -/
theorem exec_keeps_pending {c : Instr} {s t : State} (h : exec c s = .next t) : t.pending = s.pending := by
  cases c
  all_goals obtain rfl := Host.Outcome.next.inj h
  case powerOnReset => exact s.powerOn_frame.2
  case replySuccessNotice | restartTimerExpiry =>
    split
    · exact s.warmRestart_frame.2
    · simp
  case alertHanded =>
    refine State.takeInTurn_pending fun u => ?_
    split <;> simp
  case samplePeriodChange | lanePhaseCopy | phaseHandoff | capStepHandoff | modeChangeToDriver | quietReportChange
      | abortEvent =>
    exact State.takeInTurn_pending fun u => by simp
  case faultNotice | causeCleared | endOfStarting | quietEntry | quietExit | serviceEntry | serviceExit =>
    split <;> simp
  all_goals simp

/-- Settles O2: every command completes, and the state it completes in keeps the queue. -/
theorem commandsCompleteAndKeepQueue : Obligations.CommandsCompleteAndKeepQueue := by
  intro c s
  obtain ⟨t, h⟩ := exec_completes c s
  exact ⟨t, h, exec_keeps_pending h⟩

end Sys2Proof.Machine
